-- ==== Sys2Proof/Word.lean ====
section
/-! DEFINITION. The words of the 3210 and the fixed-size tables its blocks hold. -/

namespace Sys2Proof

/-- One byte of a cell, a request argument or a response datum. -/
abbrev Byte := BitVec 8

/-- A 16-bit quantity that wraps: cycle counts, stamps, the generation, change counts. -/
abbrev Word16 := BitVec 16

/-- A 32-bit counter that wraps. -/
abbrev Word32 := BitVec 32

/-- The sixteen bytes of a cell as they pass on the line: byte 0, which is sent first, holds the most
significant bits (chapter 10: a field of two or more bytes is held most significant byte first). -/
abbrev RawCell := BitVec 128

/-- A table of exactly `n` entries, entry 0 first. The size is part of the type, so no table of the
part can have a missing or a surplus entry. -/
structure Tab (n : Nat) (α : Type) where
  cells : List α
  size_eq : cells.length = n
deriving DecidableEq, Repr

variable {n : Nat} {α : Type}

/-- The entry at an index. -/
def Tab.get (t : Tab n α) (i : Fin n) : α := t.cells.get (i.cast t.size_eq.symm)

/-- The table whose entry at each index is given by a rule. -/
def Tab.ofFn (f : Fin n → α) : Tab n α := ⟨List.ofFn f, by simp⟩

/-- The table that holds one value at every index. -/
def Tab.fill (n : Nat) (a : α) : Tab n α := ⟨List.replicate n a, by simp⟩

/-- The table with one entry replaced. -/
def Tab.set (t : Tab n α) (i : Fin n) (a : α) : Tab n α := ⟨t.cells.set i.val a, by simp [t.size_eq]⟩

/-- Every index of a table of `n` entries, in ascending order. -/
def indices (n : Nat) : List (Fin n) := List.ofFn id

/-- The half-range window of chapter 0 (Comparing cycle numbers): `a` is before `b` when
`(a − b) mod 65536` lies in 32768..65535. -/
def isBefore (a b : Word16) : Bool := 32768 ≤ (a - b).toNat

end Sys2Proof
end

