-- ==== Sys2Proof/Config.lean ====
section
/-! DEFINITION. The sizes and capacities the manual fixes, and the values it leaves open. -/

namespace Sys2Proof.Config

/-- R174: the opening value of the check's register. -/
abbrev checkSeed : Word16 := 0xFFFF

/-- R174: the generator polynomial x^16 + x^12 + x^5 + 1, its top term implied. -/
abbrev checkPoly : Word16 := 0x1021

/-- R59: the most notices the notice queue holds. -/
abbrev noticeCapacity : Nat := 24

/-- R75: the most records the in-flight list holds. -/
abbrev flightCapacity : Nat := 8

/-- R40: the most records the force table holds. -/
abbrev forceCapacity : Nat := 16

/-- R159: the most records the request queue holds. -/
abbrev requestCapacity : Nat := 4

/-- R127: the most cells a FORWARD queue holds. -/
abbrev forwardCapacity : Nat := 16

/-- R127: the most cells the trunk RESPONSE queue holds. -/
abbrev responseCapacity : Nat := 4

/-- R127: the most cells a DERIVED queue holds. -/
abbrev derivedCapacity : Nat := 8

/-- R127: the most cells the trunk NOTICE queue holds. -/
abbrev noticeCellCapacity : Nat := 8

/-- R157: the station number a part takes when its straps read 0 or 255. -/
abbrev fallbackStation : Byte := 254

/-- What the straps read at the power-on that `State.reset` stands for. DESIGN CHOICE (log entry 2):
the board sets the straps; the value is the one of the worked sequence of chapter 11.1. Unsafe. -/
abbrev resetStraps : Byte := 60

/-- OPEN VALUE (log entry 9). When a WRITE-POLICY has its first station and its count each in range but
its run would pass station 254 (R142), R140 names "the first failing argument" and no rule says which
of the two arguments that is. Applied to the first station and the count as they arrived; `true`
names the count's byte, `false` the first station's. It has no body: nothing is known of it. Safe. -/
opaque policyRunNamesCount : Byte → Byte → Bool

/-- OPEN VALUE (log entry 21). R81 and chapter 10.3 give a NOTICE cell the last stamp of its notice; R100 and R114 give
it the cycle count at which it is made. `true` stands for the count. It has no body. Safe. -/
opaque noticeStampIsCount : Bool

/-- OPEN VALUE (log entry 22). The table of R122 sends a RESPONSE cell at the field port to up-passage; the first case of
R124 calls it misplaced. `true` stands for misplaced. It has no body. Safe. -/
opaque fieldResponseIsMisplaced : Bool

/-- OPEN VALUE (log entry 23). R38 and R95 say that between the reports of one cell a point may show an intermediate
result. Applied to the number of tap reports taken before: how many of the reports of the newest cell that wait behind
the one taken are of taps that had not sampled the cell when the cross-connect took it. It has no body. Safe. -/
opaque samplesUnseen : Nat → Nat

/-- OPEN VALUE (log entry 25). R52 gives an occurrence its subject's value and condition after the report; R20 and R33
have the notice unit read the subject when it records a notice. `true` stands for the reading. It has no body. Safe. -/
opaque noticeReadsSubject : Bool

end Sys2Proof.Config
end

