-- ==== Sys2Proof/Syntax.lean ====
section
/-! DEFINITION. The commands and events of the 3210: one constructor for each row of the table of
operations and events, with the operands the environment supplies. -/

namespace Sys2Proof

/-- The two ports. As the side of a tap, `field` is FIELD and `trunk` is TRUNK (R5). -/
inductive Port where
  | trunk
  | field
deriving DecidableEq, Repr

/-- The other port: the one that passage leads to. -/
def Port.other : Port → Port
  | .trunk => .field
  | .field => .trunk

/-- One command or event, as the table of operations and events names it. An event that acts on
something the part itself holds (a report, a cycle start handed on, the request at the head of the
request queue) has no operand: what it takes stands in the state. -/
inductive Instr where
  /-- POWER_ON: the part is powered up with its straps at a value (R157, R172). -/
  | powerOn (straps : Byte)
  /-- RESET_LINE_HELD: the reset line is made active (R115). -/
  | resetLineHeld
  /-- RESET_LINE_RELEASE: the reset line is released with the straps at a value (R157). -/
  | resetLineRelease (straps : Byte)
  /-- RESET_PART_TAKES_EFFECT: a RESET-PART whose response has gone takes effect (R169). -/
  | resetPartTakesEffect
  /-- SIGNAL_GAINED: a port's receiver reports gain of signal (R116). -/
  | signalGained (p : Port)
  /-- SIGNAL_LOST: a port's receiver reports loss of signal (R116, R117). -/
  | signalLost (p : Port)
  /-- CELL_RECEIVED: sixteen bytes arrive on a port (R120). -/
  | cellReceived (p : Port) (raw : RawCell)
  /-- INTERVAL_TIMER_EXPIRY: the interval timer's period counter runs out (R103). -/
  | intervalTimerExpiry
  /-- ENTER_HOLDOVER: the expiry that takes the part from FOLLOWING into HOLDOVER (R106). -/
  | enterHoldover
  /-- TAP_CYCLE_START: the tap unit takes a cycle start (R15). -/
  | tapCycleStart
  /-- GOING_STALE: the tap unit takes a cycle start at which this tap goes STALE (R16). -/
  | goingStale (tap : Nat)
  /-- XC_TAP_REPORT: the cross-connect takes a tap report (R38). -/
  | xcTapReport
  /-- XC_CYCLE_START: the cross-connect takes a cycle start (R43). -/
  | xcCycleStart
  /-- HOLD_EXPIRY: the cross-connect takes a cycle start at which this point's hold expires (R37). -/
  | holdExpiry (point : Nat)
  /-- FORCE_EXPIRY: the cross-connect takes a cycle start at which this point's force record runs out
  (R43). -/
  | forceExpiry (point : Nat)
  /-- WATCH_TAP_REPORT: the notice unit takes a tap report (R52). -/
  | watchTapReport
  /-- WATCH_POINT_REPORT: the notice unit takes a point report (R52). -/
  | watchPointReport
  /-- NOTICE_CYCLE_START: the raising side takes a cycle start (R53). -/
  | noticeCycleStart
  /-- DELIVERY_CYCLE_START: the delivery side takes a cycle start (R77). -/
  | deliveryCycleStart
  /-- RETRANSMISSION: the delivery side takes a cycle start at which the record with this sequence
  number is due with attempts left (R77). -/
  | retransmission (sequence : Byte)
  /-- NOTICE_EXPIRY: the delivery side takes a cycle start at which the record with this sequence
  number is due with no attempts left (R78). -/
  | noticeExpiry (sequence : Byte)
  /-- PUBLISHER_POINT_REPORT: the publisher takes a point report (R91). -/
  | publisherPointReport
  /-- PUBLISHER_CYCLE_START: the publisher takes a cycle start (R92). -/
  | publisherCycleStart
  /-- PERIOD_DUE: the publisher takes a cycle start at which this group's countdown reaches 0 (R92). -/
  | periodDue (group : Nat)
  /-- BANK_CYCLE_START: the bank unit takes a cycle start (R149). -/
  | bankCycleStart
  /-- LEASE_EXPIRY: the bank unit takes a cycle start that brings lease remaining to 0 (R139). -/
  | leaseExpiry
  /-- VALIDATION_COMPLETION: validation of the shadow bank completes (R147). -/
  | validationCompletion
  /-- TRANSMITTER_PICK: a port's transmitter finishes a cell and its arbiter picks the next (R129). -/
  | transmitterPick (p : Port)
  /-- UNKNOWN_OP: the engine takes a request whose operation it does not recognise (R161). -/
  | unknownOp
  /-- ECHO is taken (R164). -/
  | echo
  /-- READ-STATUS is taken (R165). -/
  | readStatus
  /-- READ-COUNTER is taken (R166). -/
  | readCounter
  /-- CLEAR-INDICATORS is taken (R167). -/
  | clearIndicators
  /-- RESET-PART is taken (R168). -/
  | resetPart
  /-- SET-CYCLE is taken (R111). -/
  | setCycle
  /-- OPEN-EDIT is taken (R137). -/
  | openEdit
  /-- WRITE-TAP is taken (R141). -/
  | writeTap
  /-- WRITE-BIND is taken (R141). -/
  | writeBind
  /-- WRITE-WATCH is taken (R141). -/
  | writeWatch
  /-- WRITE-PUBLISH is taken (R141). -/
  | writePublish
  /-- WRITE-POLICY is taken (R142). -/
  | writePolicy
  /-- READ-ENTRY is taken (R143). -/
  | readEntry
  /-- COMMIT is taken (R144). -/
  | commit
  /-- ABORT-EDIT is taken (R152). -/
  | abortEdit
  /-- READ-BANK-STATUS is taken (R154). -/
  | readBankStatus
  /-- READ-TAP-STATE is taken (R23). -/
  | readTapState
  /-- READ-POINT-STATE is taken (R47). -/
  | readPointState
  /-- FORCE-POINT is taken (R41). -/
  | forcePoint
  /-- RELEASE-POINT is taken (R42). -/
  | releasePoint
  /-- READ-WATCH-STATE is taken (R71). -/
  | readWatchState
  /-- GATE is taken (R64). -/
  | gate
  /-- ACK-NOTICE is taken (R83). -/
  | ackNotice
  /-- SET-DELIVERY is taken (R74). -/
  | setDelivery
  /-- REFERENCE_CLOCK_TICK: the reference clock ticks (R103). -/
  | referenceClockTick
deriving DecidableEq, Repr

/-- The seven kinds of cell and the unknown ones (chapter 10.1). -/
inductive Kind where
  | fill
  | cycle
  | state
  | derived
  | notice
  | request
  | response
  | unknown
deriving DecidableEq, Repr

/-- A cell by its named fields (chapter 10.1). The kind stands as its code, so that a cell of unknown
kind keeps every bit; `spare` is bits 7..4 of byte 2, which the part carries and does not read
(R173). -/
structure Cell where
  kindCode : BitVec 4
  flags    : BitVec 4
  station  : Byte
  spare    : BitVec 4
  slot     : BitVec 4
  sequence : Byte
  payload  : BitVec 64
  stamp    : Word16
  check    : Word16
deriving DecidableEq, Repr

/-- The operations of chapter 10.5. -/
inductive Operation where
  | echo
  | readStatus
  | readCounter
  | clearIndicators
  | resetPart
  | setCycle
  | openEdit
  | writeTap
  | writeBind
  | writeWatch
  | writePublish
  | writePolicy
  | readEntry
  | commit
  | abortEdit
  | readBankStatus
  | readTapState
  | readPointState
  | forcePoint
  | releasePoint
  | readWatchState
  | gate
  | ackNotice
  | setDelivery
deriving DecidableEq, Repr

end Sys2Proof
end

