-- ==== Sys2Proof/WellFormed.lean ====
section
/-! DEFINITION. Which commands name something the part has. A command whose operand names a tap, a
point or a point group is well formed when the part has one of that number (R1, R27, R88); every
other operand is a byte, a port or a cell, of which any value can arrive. -/

namespace Sys2Proof

/-- The number names one of the 192 taps. -/
def tapNumberOk (tap : Nat) : Bool := tap < 192

/-- The number names one of the 128 points. -/
def pointNumberOk (point : Nat) : Bool := point < 128

/-- The number names one of the four point groups. -/
def groupNumberOk (group : Nat) : Bool := group < 4

/-- The command names nothing the part does not have. -/
def Instr.wellFormed : Instr → Bool
  | .powerOn _ => true
  | .resetLineHeld => true
  | .resetLineRelease _ => true
  | .resetPartTakesEffect => true
  | .signalGained _ => true
  | .signalLost _ => true
  | .cellReceived _ _ => true
  | .intervalTimerExpiry => true
  | .enterHoldover => true
  | .tapCycleStart => true
  | .goingStale tap => tapNumberOk tap
  | .xcTapReport => true
  | .xcCycleStart => true
  | .holdExpiry point => pointNumberOk point
  | .forceExpiry point => pointNumberOk point
  | .watchTapReport => true
  | .watchPointReport => true
  | .noticeCycleStart => true
  | .deliveryCycleStart => true
  | .retransmission _ => true
  | .noticeExpiry _ => true
  | .publisherPointReport => true
  | .publisherCycleStart => true
  | .periodDue group => groupNumberOk group
  | .bankCycleStart => true
  | .leaseExpiry => true
  | .validationCompletion => true
  | .transmitterPick _ => true
  | .unknownOp => true
  | .echo => true
  | .readStatus => true
  | .readCounter => true
  | .clearIndicators => true
  | .resetPart => true
  | .setCycle => true
  | .openEdit => true
  | .writeTap => true
  | .writeBind => true
  | .writeWatch => true
  | .writePublish => true
  | .writePolicy => true
  | .readEntry => true
  | .commit => true
  | .abortEdit => true
  | .readBankStatus => true
  | .readTapState => true
  | .readPointState => true
  | .forcePoint => true
  | .releasePoint => true
  | .readWatchState => true
  | .gate => true
  | .ackNotice => true
  | .setDelivery => true
  | .referenceClockTick => true

end Sys2Proof
end

