-- ==== Sys2Proof/Decode.lean ====
section
/-! DEFINITION. The codes on the line: the cell's sixteen bytes and its fields, the kinds, and the
operation codes. The table of operations and events gives no row any bits, so no word spells a
command. -/

namespace Sys2Proof

/-- No row of the table gives bits: a word spells no command. -/
def decodeTableWord (_nbits _w : Nat) : Option Instr := none

/-- The fields of the sixteen bytes of a cell (chapter 10.1). -/
def Cell.ofRaw (r : RawCell) : Cell where
  kindCode := r.extractLsb' 124 4
  flags    := r.extractLsb' 120 4
  station  := r.extractLsb' 112 8
  spare    := r.extractLsb' 108 4
  slot     := r.extractLsb' 104 4
  sequence := r.extractLsb' 96 8
  payload  := r.extractLsb' 32 64
  stamp    := r.extractLsb' 16 16
  check    := r.extractLsb' 0 16

/-- The sixteen bytes of a cell as they leave on the line (chapter 10.1). -/
def Cell.toRaw (c : Cell) : RawCell :=
  c.kindCode ++ c.flags ++ c.station ++ c.spare ++ c.slot ++ c.sequence ++ c.payload ++ c.stamp ++ c.check

/-- The kind a kind code names (chapter 10.1): 7..15 are unknown. -/
def Kind.ofCode (k : BitVec 4) : Kind :=
  match k.toNat with
  | 0 => .fill
  | 1 => .cycle
  | 2 => .state
  | 3 => .derived
  | 4 => .notice
  | 5 => .request
  | 6 => .response
  | _ => .unknown

/-- The kind of a cell. -/
def Cell.kind (c : Cell) : Kind := Kind.ofCode c.kindCode

/-- The operation a code names (chapter 10.5): every code not in the table is none of them. -/
def Operation.ofCode (b : Byte) : Option Operation :=
  match b.toNat with
  | 0x01 => some .echo
  | 0x02 => some .readStatus
  | 0x03 => some .readCounter
  | 0x04 => some .clearIndicators
  | 0x05 => some .resetPart
  | 0x10 => some .setCycle
  | 0x20 => some .openEdit
  | 0x21 => some .writeTap
  | 0x22 => some .writeBind
  | 0x23 => some .writeWatch
  | 0x24 => some .writePublish
  | 0x25 => some .writePolicy
  | 0x26 => some .readEntry
  | 0x27 => some .commit
  | 0x28 => some .abortEdit
  | 0x29 => some .readBankStatus
  | 0x30 => some .readTapState
  | 0x38 => some .readPointState
  | 0x39 => some .forcePoint
  | 0x3A => some .releasePoint
  | 0x40 => some .readWatchState
  | 0x41 => some .gate
  | 0x42 => some .ackNotice
  | 0x43 => some .setDelivery
  | _ => none

/-- The code of an operation (chapter 10.5). -/
def Operation.code : Operation → Byte
  | .echo => 0x01
  | .readStatus => 0x02
  | .readCounter => 0x03
  | .clearIndicators => 0x04
  | .resetPart => 0x05
  | .setCycle => 0x10
  | .openEdit => 0x20
  | .writeTap => 0x21
  | .writeBind => 0x22
  | .writeWatch => 0x23
  | .writePublish => 0x24
  | .writePolicy => 0x25
  | .readEntry => 0x26
  | .commit => 0x27
  | .abortEdit => 0x28
  | .readBankStatus => 0x29
  | .readTapState => 0x30
  | .readPointState => 0x38
  | .forcePoint => 0x39
  | .releasePoint => 0x3A
  | .readWatchState => 0x40
  | .gate => 0x41
  | .ackNotice => 0x42
  | .setDelivery => 0x43

end Sys2Proof
end

