-- ==== Sys2Proof/Machine/Tables.lean ====
section
/-! DEFINITION. The entries a bank holds, the runtime records the blocks hold, and the value of each
in its initial state. -/

namespace Sys2Proof.Machine

/-- A tap number (R1). -/
abbrev TapNo := Fin 192

/-- A point number (R27). -/
abbrev PointNo := Fin 128

/-- A watch number (R49). -/
abbrev WatchNo := Fin 48

/-- A point group (R88). -/
abbrev GroupNo := Fin 4

/-- A station that has a policy entry (R125). -/
abbrev StationNo := Fin 255

/-- A class of notices; 0 is the most urgent (chapter 3.1). -/
abbrev ClassNo := Fin 4

/-- An originator number (chapter 9.2). -/
abbrev Originator := BitVec 4

/-! ### The entries of a bank -/

/-- A tap entry (chapter 1.1). `qualify`, `spacing` and `stale` are Q, P and S. -/
structure TapEntry where
  enabled : Bool
  side    : Port
  station : Byte
  slot    : BitVec 4
  line    : BitVec 5
  invert  : Bool
  qualify : Nat
  spacing : Nat
  stale   : Nat
  preset  : Bool
deriving DecidableEq, Repr

/-- How a point's sources are combined (chapter 2.1). -/
inductive Combine where
  | follow
  | any
  | all
  | vote
deriving DecidableEq, Repr

/-- A bind entry (chapter 2.1). The sources stand in the order they were written (R141). -/
structure BindEntry where
  fn       : Combine
  sources  : List TapNo
  failSafe : Bool
  hold     : Nat
deriving DecidableEq, Repr

/-- What a watch observes (chapter 3.1). -/
inductive Subject where
  | tap (t : TapNo)
  | point (p : PointNo)
deriving DecidableEq, Repr

/-- What counts as an occurrence (chapter 3.1). -/
inductive Trigger where
  | rise
  | fall
  | change
  | high
  | low
  | condition
deriving DecidableEq, Repr

/-- A watch entry (chapter 3.1). -/
structure WatchEntry where
  enabled : Bool
  subject : Subject
  trigger : Trigger
  cls     : ClassNo
  holdoff : Nat
deriving DecidableEq, Repr

/-- The ports a group's cells are placed for (chapter 5.2). -/
inductive Direction where
  | none
  | up
  | down
  | both
deriving DecidableEq, Repr

/-- A publish record (chapter 5.2). -/
structure PublishRecord where
  direction : Direction
  period    : Nat
  onChange  : Bool
deriving DecidableEq, Repr

/-- A station's policy (R125): `true` is BLOCK, `false` is PASS. -/
structure PolicyEntry where
  upBlock   : Bool
  downBlock : Bool
deriving DecidableEq, Repr

/-- One complete set of the five loaded tables (chapter 8.1). -/
structure Bank where
  taps    : Tab 192 TapEntry
  binds   : Tab 128 BindEntry
  watches : Tab 48 WatchEntry
  publish : Tab 4 PublishRecord
  policy  : Tab 255 PolicyEntry
deriving DecidableEq, Repr

/-- The tap entry of the empty bank (R1). -/
def emptyTapEntry : TapEntry where
  enabled := false
  side    := .field
  station := 1
  slot    := 0
  line    := 0
  invert  := false
  qualify := 1
  spacing := 1
  stale   := 0
  preset  := false

/-- The bind entry of the empty bank (R27). -/
def emptyBindEntry : BindEntry := ⟨.follow, [], false, 0⟩

/-- The watch entry of the empty bank (R49). -/
def emptyWatchEntry : WatchEntry := ⟨false, .tap 0, .change, 3, 0⟩

/-- The publish record of the empty bank (R89). -/
def emptyPublishRecord : PublishRecord := ⟨.none, 0, false⟩

/-- The policy of a station in the empty bank: PASS in both directions (R125). -/
def emptyPolicyEntry : PolicyEntry := ⟨false, false⟩

/-- The empty bank (R134). -/
def emptyBank : Bank where
  taps    := Tab.fill 192 emptyTapEntry
  binds   := Tab.fill 128 emptyBindEntry
  watches := Tab.fill 48 emptyWatchEntry
  publish := Tab.fill 4 emptyPublishRecord
  policy  := Tab.fill 255 emptyPolicyEntry

/-! ### Conditions -/

/-- The quality state of a tap (R2). -/
inductive TapCond where
  | pending
  | live
  | suspect
  | stale
deriving DecidableEq, Repr

/-- The quality state of a point (chapter 2.3). -/
inductive PointCond where
  | normal
  | degraded
  | holding
  | failsafe
deriving DecidableEq, Repr

/-- The condition a notice records: that of a tap, or that of a point (R58). -/
inductive Condition where
  | tap (c : TapCond)
  | point (c : PointCond)
deriving DecidableEq, Repr

/-! ### Runtime records and their initial states -/

/-- A tap runtime record (chapter 1.2). -/
structure TapRecord where
  cond      : TapCond
  qualified : Bool
  candidate : Bool
  run       : Nat
  spacing   : Nat
  age       : Nat
  changes   : Word16
  untrusted : Word16
deriving DecidableEq, Repr

/-- R3: the initial state of a tap. -/
def initialTap (e : TapEntry) : TapRecord := ⟨.pending, e.preset, e.preset, 0, 0, 0, 0, 0⟩

/-- A force record (chapter 2.6); `remaining` absent lasts until released. -/
structure ForceRecord where
  value     : Bool
  owner     : Originator
  remaining : Option Nat
deriving DecidableEq, Repr

/-- A point runtime record (chapter 2.3). -/
structure PointRecord where
  cond      : PointCond
  combined  : Bool
  lastGood  : Bool
  hold      : Nat
  published : Bool
  quality   : Bool
  changes   : Word16
deriving DecidableEq, Repr

/-- R33: the published value of a point. -/
def publishedValue (e : BindEntry) (f : Option ForceRecord) (r : PointRecord) : Bool :=
  match f with
  | some rec => rec.value
  | none =>
    match r.cond with
    | .normal | .degraded => r.combined
    | .holding => r.lastGood
    | .failsafe => e.failSafe

/-- R33: the published quality of a point: 1 when it is not forced and is NORMAL or DEGRADED. -/
def publishedQuality (f : Option ForceRecord) (r : PointRecord) : Bool :=
  f.isNone && (r.cond == .normal || r.cond == .degraded)

/-- R33: a point's record with its published value and quality brought up to date. -/
def withPublished (e : BindEntry) (f : Option ForceRecord) (r : PointRecord) : PointRecord :=
  { r with published := publishedValue e f r, quality := publishedQuality f r }

/-- R34: the initial state of a point, with its force record as it stands. -/
def initialPoint (e : BindEntry) (f : Option ForceRecord) : PointRecord :=
  withPublished e f ⟨.failsafe, e.failSafe, e.failSafe, 0, e.failSafe, false, 0⟩

/-- A watch runtime record (chapter 3.2). -/
structure WatchRecord where
  holdoff  : Nat
  queued   : Bool
  absorbed : Word16
deriving DecidableEq, Repr

/-- R50: the initial state of a watch. -/
def initialWatch : WatchRecord := ⟨0, false, 0⟩

/-- A publish runtime record (chapter 5.3). -/
structure PublishRuntime where
  countdown : Nat
  changed   : Bool
deriving DecidableEq, Repr

/-- R90: the publish runtime of a group after any reset. -/
def resetPublish : PublishRuntime := ⟨0, true⟩

/-! ### Reports, cycle starts and notices -/

/-- What a tap report says of the tap before or after (R18). -/
structure TapFace where
  value : Bool
  cond  : TapCond
deriving DecidableEq, Repr

/-- A tap report (R18). -/
structure TapReport where
  tap        : TapNo
  before     : TapFace
  after      : TapFace
  transition : Bool
deriving DecidableEq, Repr

/-- What a point report says of the point before or after (R39). -/
structure PointFace where
  value   : Bool
  quality : Bool
  cond    : PointCond
  forced  : Bool
deriving DecidableEq, Repr

/-- A point report (R39). -/
structure PointReport where
  point  : PointNo
  before : PointFace
  after  : PointFace
deriving DecidableEq, Repr

/-- A point report on its way to the notice unit. `behind` counts the cycle starts that the notice
unit takes before it takes the report: a report of a swap recomputation is taken only after the
notice unit's own carry-over (R69; DEDUCED, log entry 11); it is 0 for every other report. -/
structure WaitingReport where
  report : PointReport
  behind : Nat
deriving DecidableEq, Repr

/-- What a cycle start that takes the swap carries to the blocks (R149, R150): the new active bank and
its generation. -/
structure Swap where
  bank       : Bank
  generation : Word16
deriving DecidableEq, Repr

/-- A cycle start on its way to a block: the count it began, and the swap it takes, if it takes one
(R101, R149). -/
structure CycleStart where
  count : Word16
  swap  : Option Swap
deriving DecidableEq, Repr

/-- A notice record (R58). `forced` is the forced mark of a point subject. -/
structure Notice where
  watch   : WatchNo
  cls     : ClassNo
  trigger : Trigger
  value   : Bool
  cond    : Condition
  forced  : Bool
  first   : Word16
  last    : Word16
  count   : Nat
deriving DecidableEq, Repr

/-- An in-flight record (chapter 4.2). -/
structure FlightRecord where
  notice       : Notice
  sequence     : Byte
  countdown    : Nat
  attemptsLeft : Nat
  attempt      : Nat
deriving DecidableEq, Repr

/-- A request record (R158). Argument byte 0 is the most significant byte of `args`. -/
structure Request where
  originator : Originator
  tag        : Byte
  operation  : Byte
  args       : BitVec 56
  arrival    : Word16
deriving DecidableEq, Repr

/-- Result codes (chapter 10.6). -/
inductive Result where
  | ok
  | busy
  | locked
  | noSession
  | range
  | invalid
  | held
  | full
  | tooLate
  | unknownOp
deriving DecidableEq, Repr

end Sys2Proof.Machine
end

