-- ==== Sys2Proof/Machine/State.lean ====
section
/-! DEFINITION. The state of the 3210: one structure for each block, holding the state the block owns
(chapter 0, Block overview), the events each block has yet to take, the pins, and the queue of
commands. -/

namespace Sys2Proof.Machine

/-- The tap unit (chapter 1). `entries` is the tap table it works by: the active bank's, until it has
taken the cycle start of a swap (R150). `inbox` holds the cycle starts it has yet to take, oldest
first. -/
structure TapUnit where
  entries : Tab 192 TapEntry
  records : Tab 192 TapRecord
  inbox   : List CycleStart
deriving DecidableEq, Repr

/-- The cross-connect (chapter 2). The force table holds at each point the record of that point, if
there is one (R40). `reports` holds the tap reports it has yet to take, oldest first. `unseen` is the model's own (log
entry 23): how many of the newest of them are of one cell whose samples the cross-connect may not have seen yet (R38). -/
structure CrossConnect where
  entries : Tab 128 BindEntry
  records : Tab 128 PointRecord
  forces  : Tab 128 (Option ForceRecord)
  reports : List TapReport
  inbox   : List CycleStart
  unseen  : Nat
deriving DecidableEq, Repr

/-- The raising side of the notice unit (chapter 3). A gate is OPEN when its entry is `true`. -/
structure NoticeUnit where
  entries       : Tab 48 WatchEntry
  records       : Tab 48 WatchRecord
  queue         : List Notice
  gates         : Tab 4 Bool
  raised        : Word32
  acknowledged  : Word32
  lost          : Word32
  withdrawn     : Word32
  absorbedTotal : Word32
  tapReports    : List TapReport
  pointReports  : List WaitingReport
  inbox         : List CycleStart
deriving DecidableEq, Repr

/-- The delivery side of the notice unit (chapter 4). -/
structure DeliveryUnit where
  budget        : Nat
  retryInterval : Nat
  attempts      : Nat
  inFlight      : List FlightRecord
  sequence      : Byte
  inbox         : List CycleStart
deriving DecidableEq, Repr

/-- The publisher (chapter 5). `generation` is that of the bank whose records it works by (R88, R97). -/
structure Publisher where
  entries    : Tab 4 PublishRecord
  records    : Tab 4 PublishRuntime
  generation : Word16
  reports    : List PointReport
  inbox      : List CycleStart
deriving DecidableEq, Repr

/-- Where cycle starts come from (chapter 6). -/
inductive CycleState where
  | following
  | holdover
  | originating
deriving DecidableEq, Repr

/-- Cycle timing (chapter 6): `divide`, `period` and `watchLimit` are D, T and W. -/
structure CycleTiming where
  count          : Word16
  state          : CycleState
  divide         : Nat
  period         : Nat
  watchLimit     : Nat
  prescaleCount  : Nat
  periodCount    : Nat
  missed         : Nat
  established    : Bool
  skewCount      : Word32
  conflictCount  : Word32
deriving DecidableEq, Repr

/-- A port's line state (R115). -/
inductive LineState where
  | down
  | up
deriving DecidableEq, Repr

/-- The ten counters of a port (R131). -/
structure PortCounters where
  received         : Word32
  checkErrors      : Word32
  lateCells        : Word32
  misplaced        : Word32
  clashes          : Word32
  blocked          : Word32
  forwardDrops     : Word32
  derivedDrops     : Word32
  discardedDown    : Word32
  placeReplaced    : Word32
deriving DecidableEq, Repr

/-- A port (chapter 7). `signal` is what its receiver last reported; `sending` is the cell in
transmission. The field port has no RESPONSE and no NOTICE queue: the two lists stay empty there. -/
structure PortState where
  line       : LineState
  signal     : Bool
  goodRun    : Nat
  badRun     : Nat
  cyclePlace : Option Cell
  forward    : List Cell
  response   : List Cell
  derived    : List Cell
  notice     : List Cell
  forwardRun : Nat
  sending    : Option Cell
  counters   : PortCounters
deriving DecidableEq, Repr

/-- Where an edit session stands (R135). -/
inductive BankState where
  | idle
  | editing
  | validating
  | armed
deriving DecidableEq, Repr

/-- When a swap is to be taken (chapter 8.2). -/
inductive Target where
  | none
  | next
  | atCount (count : Word16)
deriving DecidableEq, Repr

/-- How the most recent session ended or last failed (chapter 8.2). -/
inductive SessionOutcome where
  | none
  | committed
  | rejected
  | late
  | leaseExpired
  | aborted
deriving DecidableEq, Repr

/-- The five tables of a bank (chapter 10.4). -/
inductive TableName where
  | tap
  | bind
  | watch
  | publish
  | policy
deriving DecidableEq, Repr

/-- Why a validation failed (R146). -/
inductive Reason where
  | ownStation
  | staleLimit
  | sourceDisabled
  | duplicateSource
  | sourceCount
  | subjectDisabled
  | levelHoldoff
deriving DecidableEq, Repr

/-- The first validation failure found (R146). -/
structure FirstError where
  table  : TableName
  index  : Nat
  reason : Reason
deriving DecidableEq, Repr

/-- The bank unit (chapter 8). `inbox` holds the counts of the cycle starts it has yet to take: it takes
each before any other block does and passes it on with its answer (R149). -/
structure BankUnit where
  active         : Bank
  shadow         : Option Bank
  state          : BankState
  owner          : Option Originator
  lease          : Nat
  leaseRemaining : Nat
  target         : Target
  targetPassed   : Bool
  generation     : Word16
  lastOutcome    : SessionOutcome
  firstError     : Option FirstError
  inbox          : List Word16
deriving DecidableEq, Repr

/-- The scope of a RESET-PART (R168). -/
inductive Scope where
  | runtime
  | full
deriving DecidableEq, Repr

/-- Where the response of a pending RESET-PART stands (R169): waiting in the trunk RESPONSE queue, in
transmission, or gone (sent to its end, discarded or flushed). DEDUCED (log entry 17). -/
inductive ResponseStage where
  | queued
  | sending
  | gone
deriving DecidableEq, Repr

/-- The engine state with the pending scope (chapter 9, R168). -/
inductive EngineState where
  | running
  | resetPending (scope : Scope) (response : ResponseStage)
deriving DecidableEq, Repr

/-- The kind of the most recent reset (R171). -/
inductive ResetCause where
  | powerOn
  | resetLine
  | full
  | runtime
deriving DecidableEq, Repr

/-- The nine indicators as the low nine bits of the indicator mask (chapter 10.4). -/
abbrev Indicators := BitVec 9

/-- The management engine (chapter 9). -/
structure Engine where
  station      : Byte
  queue        : List Request
  state        : EngineState
  indicators   : Indicators
  resetCause   : ResetCause
  requestDrops : Word32
deriving DecidableEq, Repr

/-- The state of the part. `pending` is the queue of the commands that wait, first in, first out;
`resetLine` is whether the reset line is held active; `straps` is what the strap lines last read; `drawn` is the model's
own: how many tap reports the cross-connect has ever taken, to which `Config.samplesUnseen` is applied (log entry 23). -/
structure State where
  pending   : List Instr
  resetLine : Bool
  straps    : Byte
  drawn     : Nat
  tap       : TapUnit
  xc        : CrossConnect
  notice    : NoticeUnit
  delivery  : DeliveryUnit
  publisher : Publisher
  cycle     : CycleTiming
  trunk     : PortState
  field     : PortState
  bank      : BankUnit
  engine    : Engine
deriving DecidableEq, Repr

/-- What stops the part: nothing does. The manual gives every event an effect in every state, so the
type has no reason in it; no meaning faults. -/
inductive Fault where
deriving DecidableEq, Repr

/-- Why a command has no meaning. -/
inductive Refusal where
  /-- Raised by `exec` alone, for a command that has no meaning yet; safe. No arm raises it. -/
  | notModelled (mnemonic : String)
deriving DecidableEq, Repr

/-- Ten counters at 0 (R131). -/
def zeroCounters : PortCounters := ⟨0, 0, 0, 0, 0, 0, 0, 0, 0, 0⟩

/-- A port right after power-on (R115, R133). That its receiver has signal and that no cell is in
transmission are DESIGN CHOICES (log entries 3 and 16). -/
def State.resetPort : PortState where
  line       := .down
  signal     := true
  goodRun    := 0
  badRun     := 0
  cyclePlace := none
  forward    := []
  response   := []
  derived    := []
  notice     := []
  forwardRun := 0
  sending    := none
  counters   := zeroCounters

/-- The part right after power-on, its reset line not held and its straps as log entry 2 says. That `drawn` starts at 0
is a DESIGN CHOICE (log entry 23). -/
def State.reset : State where
  pending   := []
  resetLine := false
  straps    := Config.resetStraps
  drawn     := 0
  tap       := ⟨emptyBank.taps, Tab.fill 192 (initialTap emptyTapEntry), []⟩
  xc        := ⟨emptyBank.binds, Tab.fill 128 (initialPoint emptyBindEntry none), Tab.fill 128 none, [], [], 0⟩
  notice    := ⟨emptyBank.watches, Tab.fill 48 initialWatch, [], Tab.fill 4 false, 0, 0, 0, 0, 0, [], [], []⟩
  delivery  := ⟨2, 8, 3, [], 0, []⟩
  publisher := ⟨emptyBank.publish, Tab.fill 4 resetPublish, 0, [], []⟩
  cycle     := ⟨0, .following, 9, 1000, 4, 9, 1000, 0, false, 0, 0⟩
  trunk     := State.resetPort
  field     := State.resetPort
  bank      := ⟨emptyBank, none, .idle, none, 0, 0, .none, false, 0, .none, none, []⟩
  engine    := ⟨Config.resetStraps, [], .running, 0, .powerOn, 0⟩

end Sys2Proof.Machine
end

