-- ==== Sys2Proof/Machine/Flags.lean ====
section
/-! DEFINITION. The nine indicators: their places in the indicator mask, setting, clearing, and the
attention flag that follows them. -/

namespace Sys2Proof.Machine

/-- The nine indicators (R170). -/
inductive Indicator where
  | overflow
  | loss
  | conflict
  | clash
  | linkLost
  | skew
  | holdover
  | strapInvalid
  | resetSeen
deriving DecidableEq, Repr

/-- The bit of the indicator mask that stands for an indicator (chapter 10.4). -/
def indicatorBit : Indicator → Indicators
  | .overflow => 0x001
  | .loss => 0x002
  | .conflict => 0x004
  | .clash => 0x008
  | .linkLost => 0x010
  | .skew => 0x020
  | .holdover => 0x040
  | .strapInvalid => 0x080
  | .resetSeen => 0x100

/-- Whether an indicator is set. -/
def indicatorSet (s : State) (i : Indicator) : Bool := s.engine.indicators &&& indicatorBit i != 0

/-- R170: an event sets an indicator, whether or not it was already set. -/
def State.indicate (s : State) (i : Indicator) : State :=
  { s with engine := { s.engine with indicators := s.engine.indicators ||| indicatorBit i } }

/-- R167: the indicators with every one named in a mask cleared. -/
def clearNamed (ind mask : Indicators) : Indicators := ind &&& ~~~mask

/-- R81: whether a NOTICE cell made now carries the attention flag. -/
def attention (s : State) : Bool := s.engine.indicators != 0

/-- R157: whether a strap reading is no usable station. -/
def strapsInvalid (straps : Byte) : Bool := straps == 0 || straps == 255

end Sys2Proof.Machine
end

