-- ==== Sys2Proof/Machine/Operands.lean ====
section
/-! DEFINITION. What travels in cells: the check, the fields the part reads from an arriving cell, the
cells the part makes, the argument bytes of a request, the entry encodings, and the codes of
chapter 10.4. -/

namespace Sys2Proof.Machine

/-! ### The check (R174) -/

/-- One bit of the check's computation. -/
def checkStep (reg : Word16) (bit : Bool) : Word16 :=
  if xor bit reg.msb then (reg <<< 1) ^^^ Config.checkPoly else reg <<< 1

/-- The bits of the sixteen bytes in the order they are sent: byte 0 first, bit 7 of each byte first. -/
def lineBits (r : RawCell) : List Bool := (indices 128).map fun i => r.getMsbD i.val

/-- The check of a run of bits. -/
def checkOfBits (bits : List Bool) : Word16 := bits.foldl checkStep Config.checkSeed

/-- R174: the check computed over bytes 0..13 of a cell. -/
def computedCheck (r : RawCell) : Word16 := checkOfBits ((lineBits r).take 112)

/-- R174: the check computed over bytes 0..13 equals bytes 14..15. -/
def goodCheck (r : RawCell) : Bool := computedCheck r == (Cell.ofRaw r).check

/-- A cell with its check as the part computes it when it makes the cell. -/
def withCheck (c : Cell) : Cell := { c with check := computedCheck c.toRaw }

/-! ### Reading an arriving cell -/

/-- R173: the value of line `i`, bit (i mod 8) of byte 7 − (i div 8). -/
def lineValue (c : Cell) (i : BitVec 5) : Bool := (c.payload.extractLsb' 32 32).getLsbD i.toNat

/-- R173: the trust bit of line `i`, bit (i mod 8) of byte 11 − (i div 8). -/
def lineTrust (c : Cell) (i : BitVec 5) : Bool := (c.payload.extractLsb' 0 32).getLsbD i.toNat

/-- R158: the request record of a REQUEST cell that arrives at a cycle count. -/
def requestOf (c : Cell) (count : Word16) : Request where
  originator := c.slot
  tag        := c.sequence
  operation  := c.payload.extractLsb' 56 8
  args       := c.payload.extractLsb' 0 56
  arrival    := count

/-- Argument byte `i` of a request, `i` in 0..6. -/
def Request.arg (r : Request) (i : Nat) : Byte := r.args.extractLsb' (8 * (6 - i)) 8

/-- Argument bytes `i` and `i + 1` of a request as one field. -/
def Request.arg16 (r : Request) (i : Nat) : Word16 := r.arg i ++ r.arg (i + 1)

/-! ### Codes (chapters 10.4 and 10.6) -/

/-- The condition code. -/
def conditionCode : Condition → BitVec 3
  | .tap .pending => 0
  | .tap .live => 1
  | .tap .suspect => 2
  | .tap .stale => 3
  | .point .normal => 4
  | .point .degraded => 5
  | .point .holding => 6
  | .point .failsafe => 7

/-- The trigger code. -/
def triggerCode : Trigger → BitVec 3
  | .rise => 0
  | .fall => 1
  | .change => 2
  | .high => 3
  | .low => 4
  | .condition => 5

/-- The trigger a byte names, if it names one of the six. -/
def triggerOf (b : Byte) : Option Trigger :=
  match b.toNat with
  | 0 => some .rise
  | 1 => some .fall
  | 2 => some .change
  | 3 => some .high
  | 4 => some .low
  | 5 => some .condition
  | _ => none

/-- The bank state code. -/
def bankStateCode : BankState → BitVec 2
  | .idle => 0
  | .editing => 1
  | .validating => 2
  | .armed => 3

/-- The cycle state code. -/
def cycleStateCode : CycleState → BitVec 2
  | .following => 0
  | .holdover => 1
  | .originating => 2

/-- The commit target code. -/
def targetCode : Target → BitVec 2
  | .none => 0
  | .next => 1
  | .atCount _ => 2

/-- The target count a response shows: 0 unless the target is AT (DEDUCED, log entry 10). -/
def targetCount : Target → Word16
  | .none => 0
  | .next => 0
  | .atCount c => c

/-- The last outcome code. -/
def outcomeCode : SessionOutcome → Byte
  | .none => 0
  | .committed => 1
  | .rejected => 2
  | .late => 3
  | .leaseExpired => 4
  | .aborted => 5

/-- The table code. -/
def tableCode : TableName → Byte
  | .tap => 0
  | .bind => 1
  | .watch => 2
  | .publish => 3
  | .policy => 4

/-- The table a byte names, if it names one of the five. -/
def tableOf (b : Byte) : Option TableName :=
  match b.toNat with
  | 0 => some .tap
  | 1 => some .bind
  | 2 => some .watch
  | 3 => some .publish
  | 4 => some .policy
  | _ => none

/-- The validation reason code. -/
def reasonCode : Reason → Byte
  | .ownStation => 1
  | .staleLimit => 2
  | .sourceDisabled => 3
  | .duplicateSource => 4
  | .sourceCount => 5
  | .subjectDisabled => 6
  | .levelHoldoff => 7

/-- The reset cause code. -/
def causeCode : ResetCause → Byte
  | .powerOn => 0
  | .resetLine => 1
  | .full => 2
  | .runtime => 3

/-- The result code (chapter 10.6). -/
def resultCode : Result → Byte
  | .ok => 0
  | .busy => 1
  | .locked => 2
  | .noSession => 3
  | .range => 4
  | .invalid => 5
  | .held => 6
  | .full => 7
  | .tooLate => 8
  | .unknownOp => 9

/-- An originator as a data byte. -/
def originatorByte (o : Originator) : Byte := o.setWidth 8

/-- An owner as a data byte: FFh when none. -/
def ownerByte : Option Originator → Byte
  | none => 0xFF
  | some o => originatorByte o

/-- A count or a small number as a data byte. -/
def countByte (k : Nat) : Byte := BitVec.ofNat 8 k

/-- The high byte of a 16-bit field. -/
def highByte (w : Word16) : Byte := w.extractLsb' 8 8

/-- The low byte of a 16-bit field. -/
def lowByte (w : Word16) : Byte := w.extractLsb' 0 8

/-- A two-valued field as one bit. -/
def bit (b : Bool) : BitVec 1 := BitVec.ofBool b

/-! ### The cells the part makes (R173) -/

/-- R110: a CYCLE cell made by cycle timing. -/
def makeCycleCell (station : Byte) (holdover : Bool) (count : Word16) : Cell :=
  withCheck ⟨1, (0 : BitVec 3) ++ bit holdover, station, 0, 0, 0, 0, count, 0⟩

/-- R129: a FILL cell made by the arbiter. -/
def makeFillCell (station : Byte) : Cell := withCheck ⟨0, 0, station, 0, 0, 0, 0, 0, 0⟩

/-- R88: the DERIVED cell of a group, from its 32 line values and 32 trust bits. -/
def makeDerivedCell (station : Byte) (g : GroupNo) (generation count : Word16) (lines trusts : BitVec 32) : Cell :=
  withCheck ⟨3, 0, station, 0, BitVec.ofNat 4 g.val, lowByte generation, lines ++ trusts, count, 0⟩

/-- Byte 6 of a NOTICE cell: class in bits 5..4, trigger in bits 2..0. -/
def classTriggerByte (n : Notice) : Byte :=
  (0 : BitVec 2) ++ BitVec.ofNat 2 n.cls.val ++ (0 : BitVec 1) ++ triggerCode n.trigger

/-- Byte 7 of a NOTICE cell: value in bit 0, condition in bits 3..1, forced mark in bit 4. -/
def subjectByte (n : Notice) : Byte :=
  (0 : BitVec 3) ++ bit n.forced ++ conditionCode n.cond ++ bit n.value

/-- The stamp of a NOTICE cell made at a cycle count: the last stamp of its notice, by R81 and chapter 10.3, or the
count, by R100 and R114. Which decides is left open (log entry 21). -/
def noticeStamp (count : Word16) (n : Notice) : Word16 := if Config.noticeStampIsCount then count else n.last

/-- R81: the NOTICE cell that is made of an in-flight record at a cycle count. -/
def makeNoticeCell (station : Byte) (attention retransmission : Bool) (count : Word16) (f : FlightRecord) : Cell :=
  withCheck ⟨4, (0 : BitVec 2) ++ bit retransmission ++ bit attention, station, 0, 0, f.sequence,
    f.sequence ++ countByte f.notice.watch.val ++ classTriggerByte f.notice ++ subjectByte f.notice
      ++ countByte f.notice.count ++ f.notice.first ++ countByte f.attempt, noticeStamp count f.notice, 0⟩

/-- Six data bytes, 0 in every place a response gives no content (R176). -/
def packData (d : List Byte) : BitVec 48 :=
  d.getD 0 0 ++ d.getD 1 0 ++ d.getD 2 0 ++ d.getD 3 0 ++ d.getD 4 0 ++ d.getD 5 0

/-- R162: the RESPONSE cell of a taken request. -/
def makeResponseCell (station : Byte) (r : Request) (result : Result) (data : List Byte) : Cell :=
  withCheck ⟨6, 0, station, 0, r.originator, r.tag, r.operation ++ resultCode result ++ packData data, r.arrival, 0⟩

/-! ### Entry encodings (chapter 10.5) -/

/-- The data bytes of a tap entry. -/
def tapEntryData (e : TapEntry) : List Byte :=
  [(0 : BitVec 4) ++ bit e.preset ++ bit e.invert ++ bit (e.side == .trunk) ++ bit e.enabled, e.station,
    e.slot ++ BitVec.ofNat 4 e.qualify, e.line.setWidth 8, countByte e.spacing, countByte e.stale]

/-- The code of a combine function. -/
def combineCode : Combine → BitVec 4
  | .follow => 0
  | .any => 1
  | .all => 2
  | .vote => 3

/-- The function a code names, if it names one of the four. -/
def combineOf (b : BitVec 4) : Option Combine :=
  match b.toNat with
  | 0 => some .follow
  | 1 => some .any
  | 2 => some .all
  | 3 => some .vote
  | _ => none

/-- A stored source as a data byte: 0 in a place beyond the source count. -/
def sourceByte (e : BindEntry) (k : Nat) : Byte := ((e.sources[k]?).map fun t => countByte t.val).getD 0

/-- The data bytes of a bind entry. -/
def bindEntryData (e : BindEntry) : List Byte :=
  [combineCode e.fn ++ BitVec.ofNat 4 e.sources.length, sourceByte e 0, sourceByte e 1, sourceByte e 2,
    (0 : BitVec 7) ++ bit e.failSafe, countByte e.hold]

/-- The subject kind bit: 0 TAP, 1 POINT. -/
def subjectKind : Subject → Bool
  | .tap _ => false
  | .point _ => true

/-- The subject number. -/
def subjectNumber : Subject → Nat
  | .tap t => t.val
  | .point p => p.val

/-- The data bytes of a watch entry. -/
def watchEntryData (e : WatchEntry) : List Byte :=
  [(0 : BitVec 6) ++ bit (subjectKind e.subject) ++ bit e.enabled, countByte (subjectNumber e.subject),
    (0 : BitVec 5) ++ triggerCode e.trigger, countByte e.cls.val, countByte e.holdoff]

/-- The code of a direction. -/
def directionCode : Direction → Byte
  | .none => 0
  | .up => 1
  | .down => 2
  | .both => 3

/-- The direction a byte names, if it names one of the four. -/
def directionOf (b : Byte) : Option Direction :=
  match b.toNat with
  | 0 => some .none
  | 1 => some .up
  | 2 => some .down
  | 3 => some .both
  | _ => none

/-- The data bytes of a publish record. -/
def publishRecordData (e : PublishRecord) : List Byte :=
  [directionCode e.direction, countByte e.period, (0 : BitVec 7) ++ bit e.onChange]

/-- The data byte of a station's policy. -/
def policyEntryData (e : PolicyEntry) : List Byte := [(0 : BitVec 6) ++ bit e.downBlock ++ bit e.upBlock]

/-- What a write's arguments come to: an index and an entry; a RANGE refusal naming the first failing
argument byte; or an INVALID refusal naming the byte of the repeated source (R140, R175). -/
inductive WriteArgs (ι ε : Type) where
  | entry (index : ι) (entry : ε)
  | range (argByte : Nat)
  | invalid (argByte : Nat)
deriving DecidableEq, Repr

/-- R141, R175: the tap number and entry of a WRITE-TAP. -/
def writeTapArgs (r : Request) : WriteArgs TapNo TapEntry :=
  if h : (r.arg 0).toNat < 192 then
    if (r.arg 1).extractLsb' 4 4 != 0 then .range 1
    else if 254 < (r.arg 2).toNat then .range 2
    else if (r.arg 3).extractLsb' 0 4 == 0 then .range 3
    else if 31 < (r.arg 4).toNat then .range 4
    else if (r.arg 5).toNat == 0 || 63 < (r.arg 5).toNat then .range 5
    else .entry ⟨(r.arg 0).toNat, h⟩
      { enabled := (r.arg 1).getLsbD 0
        side    := if (r.arg 1).getLsbD 1 then .trunk else .field
        station := r.arg 2
        slot    := (r.arg 3).extractLsb' 4 4
        line    := (r.arg 4).setWidth 5
        invert  := (r.arg 1).getLsbD 2
        qualify := ((r.arg 3).extractLsb' 0 4).toNat
        spacing := (r.arg 5).toNat
        stale   := (r.arg 6).toNat
        preset  := (r.arg 1).getLsbD 3 }
  else .range 0

/-- The tap a byte names, if it names one. -/
def tapNo? (b : Byte) : Option TapNo := if h : b.toNat < 192 then some ⟨b.toNat, h⟩ else none

/-- The point a byte names, if it names one. -/
def pointNo? (b : Byte) : Option PointNo := if h : b.toNat < 128 then some ⟨b.toNat, h⟩ else none

/-- The source argument bytes in use, with the number of the argument byte of each: those in the
places 2..4 that the source count covers (R141). -/
def sourceArgs (r : Request) (count : Nat) : List (Nat × Byte) :=
  [(2, r.arg 2), (3, r.arg 3), (4, r.arg 4)].take count

/-- The number of the first source argument byte that names no tap. -/
def badSource (srcs : List (Nat × Byte)) : Option Nat := (srcs.find? fun x => (tapNo? x.2).isNone).map (·.1)

/-- R175: the number of the argument byte that lists a source a second time: the lowest-numbered one
whose source an earlier one lists. -/
def repeatedSource : List Byte → List (Nat × Byte) → Option Nat
  | _, [] => none
  | seen, (k, b) :: rest => if seen.contains b then some k else repeatedSource (b :: seen) rest

/-- R140, R141, R175: the point and entry of a WRITE-BIND. The range tests are made over every byte in
use before the test for a repeated source. -/
def writeBindArgs (r : Request) : WriteArgs PointNo BindEntry :=
  let count := ((r.arg 1).extractLsb' 0 4).toNat
  let srcs := sourceArgs r count
  match pointNo? (r.arg 0), combineOf ((r.arg 1).extractLsb' 4 4) with
  | none, _ => .range 0
  | some _, none => .range 1
  | some p, some fn =>
    if 3 < count then .range 1
    else match badSource srcs with
      | some k => .range k
      | none =>
        if 1 < (r.arg 5).toNat then .range 5
        else match repeatedSource [] srcs with
          | some k => .invalid k
          | none => .entry p
            { fn       := fn
              sources  := srcs.filterMap fun x => tapNo? x.2
              failSafe := (r.arg 5).getLsbD 0
              hold     := (r.arg 6).toNat }

/-- The subject a kind bit and a number name, if they name one. -/
def subjectOf (point : Bool) (number : Byte) : Option Subject :=
  if point then (pointNo? number).map .point else (tapNo? number).map .tap

/-- R141, R175: the watch and entry of a WRITE-WATCH. -/
def writeWatchArgs (r : Request) : WriteArgs WatchNo WatchEntry :=
  if h : (r.arg 0).toNat < 48 then
    if (r.arg 1).extractLsb' 2 6 != 0 then .range 1
    else match subjectOf ((r.arg 1).getLsbD 1) (r.arg 2), triggerOf (r.arg 3) with
      | none, _ => .range 2
      | some _, none => .range 3
      | some subject, some trigger =>
        if hc : (r.arg 4).toNat < 4 then
          .entry ⟨(r.arg 0).toNat, h⟩
            { enabled := (r.arg 1).getLsbD 0
              subject := subject
              trigger := trigger
              cls     := ⟨(r.arg 4).toNat, hc⟩
              holdoff := (r.arg 5).toNat }
        else .range 4
  else .range 0

/-- R141, R175: the group and record of a WRITE-PUBLISH. -/
def writePublishArgs (r : Request) : WriteArgs GroupNo PublishRecord :=
  if h : (r.arg 0).toNat < 4 then
    match directionOf (r.arg 1) with
    | none => .range 1
    | some direction =>
      if 1 < (r.arg 3).toNat then .range 3
      else .entry ⟨(r.arg 0).toNat, h⟩
        { direction := direction
          period    := (r.arg 2).toNat
          onChange  := (r.arg 3).getLsbD 0 }
  else .range 0

/-- The run of a WRITE-POLICY: its first station and its count. -/
structure PolicyRun where
  first : Nat
  count : Nat
deriving DecidableEq, Repr

/-- R142: the run of a WRITE-POLICY and the two 16-bit values that govern its stations, bit `k` for
station first + k. A run that would pass station 254 with both its arguments in range is refused
with a byte number the manual leaves open (log entry 9). -/
def writePolicyArgs (r : Request) : WriteArgs PolicyRun (Word16 × Word16) :=
  if 254 < (r.arg 0).toNat then .range 0
  else if (r.arg 1).toNat == 0 || 16 < (r.arg 1).toNat then .range 1
  else if 255 < (r.arg 0).toNat + (r.arg 1).toNat then
    .range (if Config.policyRunNamesCount (r.arg 0) (r.arg 1) then 1 else 0)
  else .entry ⟨(r.arg 0).toNat, (r.arg 1).toNat⟩ (r.arg16 2, r.arg16 4)

end Sys2Proof.Machine
end

