-- ==== Sys2Proof/Machine/Ops.lean ====
section
/-! DEFINITION. The named operations the blocks share: reading and changing a port, placing a cell for
a port, making reports, handing on a cycle start, and the gate that the held reset line closes. -/

namespace Sys2Proof.Machine

/-! ### Ports -/

/-- The state of a port. -/
def State.port (s : State) : Port → PortState
  | .trunk => s.trunk
  | .field => s.field

/-- The state with one port changed. -/
def State.setPort (s : State) (p : Port) (ps : PortState) : State :=
  match p with
  | .trunk => { s with trunk := ps }
  | .field => { s with field := ps }

/-- The state with one port changed by a rule. -/
def State.onPort (s : State) (p : Port) (f : PortState → PortState) : State := s.setPort p (f (s.port p))

/-- A port with one of its counters changed. -/
def countOn (f : PortCounters → PortCounters) (ps : PortState) : PortState := { ps with counters := f ps.counters }

/-- R119: a cell discarded at a DOWN port is counted there. -/
def countDiscarded (ps : PortState) : PortState :=
  countOn (fun c => { c with discardedDown := c.discardedDown + 1 }) ps

/-- R119, R126: placing a cell in a port's FORWARD queue. -/
def placeForward (c : Cell) (ps : PortState) : PortState :=
  match ps.line with
  | .down => countDiscarded ps
  | .up =>
    if ps.forward.length < Config.forwardCapacity then { ps with forward := ps.forward ++ [c] }
    else countOn (fun k => { k with forwardDrops := k.forwardDrops + 1 }) ps

/-- R94, R119: placing a cell in a port's DERIVED queue. -/
def placeDerived (c : Cell) (ps : PortState) : PortState :=
  match ps.line with
  | .down => countDiscarded ps
  | .up =>
    if ps.derived.length < Config.derivedCapacity then { ps with derived := ps.derived ++ [c] }
    else countOn (fun k => { k with derivedDrops := k.derivedDrops + 1 }) ps

/-- R119, R127: placing a cell in the NOTICE queue; the delivery side has checked for room. -/
def placeNotice (c : Cell) (ps : PortState) : PortState :=
  match ps.line with
  | .down => countDiscarded ps
  | .up => { ps with notice := ps.notice ++ [c] }

/-- R119, R127: placing a cell in the RESPONSE queue; the engine has checked for room. -/
def placeResponse (c : Cell) (ps : PortState) : PortState :=
  match ps.line with
  | .down => countDiscarded ps
  | .up => { ps with response := ps.response ++ [c] }

/-- R119, R128: placing a CYCLE cell in the cycle place; a waiting cell is replaced and counted. -/
def placeCycle (c : Cell) (ps : PortState) : PortState :=
  match ps.line with
  | .down => countDiscarded ps
  | .up =>
    match ps.cyclePlace with
    | none => { ps with cyclePlace := some c }
    | some _ =>
      countOn (fun k => { k with placeReplaced := k.placeReplaced + 1 }) { ps with cyclePlace := some c }

/-! ### The held reset line -/

/-- R115: while the reset line is held nothing reaches the part: an event then has no effect. -/
def unlessHeld (s : State) (next : State) : State := if s.resetLine then s else next

/-! ### Conditions and faces -/

/-- What a tap report says of a tap as its record stands. -/
def tapFace (r : TapRecord) : TapFace := ⟨r.qualified, r.cond⟩

/-- What a point report says of a point as its record and its force record stand. -/
def pointFace (f : Option ForceRecord) (r : PointRecord) : PointFace := ⟨r.published, r.quality, r.cond, f.isSome⟩

/-- The number of force records in the table. -/
def forceCount (s : State) : Nat := ((indices 128).filter fun p => (s.xc.forces.get p).isSome).length

/-- The number of free records in the force table. -/
def freeForces (s : State) : Nat := Config.forceCapacity - forceCount s

/-! ### Reports and cycle starts on their way -/

/-- R19: tap reports go to the cross-connect and to the notice unit, in order. `unseen` is how many of them tell of
samples that the cross-connect may not have seen when it takes the first (R38, log entry 23). -/
def reportTaps (unseen : Nat) (rs : List TapReport) (s : State) : State :=
  { s with xc := { s.xc with reports := s.xc.reports ++ rs, unseen := unseen }, notice := { s.notice with tapReports := s.notice.tapReports ++ rs } }

/-- R39: point reports go to the notice unit and to the publisher, in order. `behind` is the number of
cycle starts the notice unit takes before it takes them (R69). -/
def reportPoints (behind : Nat) (rs : List PointReport) (s : State) : State :=
  { s with notice := { s.notice with pointReports := s.notice.pointReports ++ rs.map fun r => ⟨r, behind⟩ },
           publisher := { s.publisher with reports := s.publisher.reports ++ rs } }

/-- R149: the bank unit passes a cycle start on, with its answer, to the blocks that take it. -/
def passCycleStart (c : CycleStart) (s : State) : State :=
  { s with tap := { s.tap with inbox := s.tap.inbox ++ [c] }, xc := { s.xc with inbox := s.xc.inbox ++ [c] },
           notice := { s.notice with inbox := s.notice.inbox ++ [c] },
           delivery := { s.delivery with inbox := s.delivery.inbox ++ [c] },
           publisher := { s.publisher with inbox := s.publisher.inbox ++ [c] } }

/-- R101, R149: a cycle start: the count is set, the established mark is set (R102), and the cycle start
is handed on, to the bank unit first. -/
def handOnCycleStart (count : Word16) (s : State) : State :=
  { s with cycle := { s.cycle with count := count, established := true },
           bank := { s.bank with inbox := s.bank.inbox ++ [count] } }

end Sys2Proof.Machine
end

