-- ==== Sys2Proof/Machine/Taps.lean ====
section
/-! DEFINITION. The tap unit (chapter 1): sampling, qualification, ageing, carry-over at a swap. -/

namespace Sys2Proof.Machine

/-- R9: what every sample does before qualification acts. -/
def sampled (e : TapEntry) (r : TapRecord) : TapRecord := { r with age := 0, spacing := e.spacing - 1 }

/-- R11: adoption of a trusted raw value. -/
def adopt (raw : Bool) (r : TapRecord) : TapRecord :=
  { r with cond := .live, qualified := raw, candidate := raw, run := 0,
           changes := if raw == r.qualified then r.changes else r.changes + 1 }

/-- R12: the count that a differing trusted sample brings. -/
def runAfter (raw : Bool) (r : TapRecord) : Nat := if 0 < r.run && raw == r.candidate then r.run + 1 else 1

/-- R12: whether a trusted sample in LIVE or SUSPECT is a value transition. -/
def transitions (e : TapEntry) (raw : Bool) (r : TapRecord) : Bool :=
  raw != r.qualified && e.qualify ≤ runAfter raw r

/-- R12: a trusted sample in LIVE or SUSPECT. -/
def qualify (e : TapEntry) (raw : Bool) (r : TapRecord) : TapRecord :=
  if raw == r.qualified then { r with cond := .live, run := 0 }
  else if transitions e raw r then
    { r with cond := .live, qualified := raw, candidate := raw, run := 0, changes := r.changes + 1 }
  else { r with cond := .live, candidate := raw, run := runAfter raw r }

/-- R13: an untrusted sample. -/
def distrust (r : TapRecord) : TapRecord := { r with cond := .suspect, run := 0, untrusted := r.untrusted + 1 }

/-- R9: whether a trusted sample in this condition is adopted rather than qualified. -/
def adopts : TapCond → Bool
  | .pending => true
  | .live => false
  | .suspect => false
  | .stale => true

/-- R9, R11, R12, R13: a tap takes a sample. -/
def takeSample (e : TapEntry) (raw trusted : Bool) (r : TapRecord) : TapRecord :=
  if trusted then
    if adopts r.cond then adopt raw (sampled e r) else qualify e raw (sampled e r)
  else distrust (sampled e r)

/-- R18: whether the sample is a value transition under R12. -/
def sampleTransitions (e : TapEntry) (raw trusted : Bool) (r : TapRecord) : Bool :=
  trusted && !adopts r.cond && transitions e raw r

/-- R18: the report of a change of a tap, if its value or its condition changed. -/
def tapReport (t : TapNo) (before after : TapRecord) (transition : Bool) : Option TapReport :=
  if tapFace before == tapFace after then none else some ⟨t, tapFace before, tapFace after, transition⟩

/-- R6: whether a tap wants an offered cell, its stamp aside. -/
def wantsCell (p : Port) (c : Cell) (e : TapEntry) (r : TapRecord) : Bool :=
  e.enabled && e.side == p && e.station == c.station && e.slot == c.slot && r.spacing == 0

/-- R7: whether a stamp lies in the stamp window of a cycle count. -/
def inWindow (stamp count : Word16) : Bool := stamp == count || stamp == count - 1

/-- R9: the raw value a tap forms from a cell. -/
def rawValue (e : TapEntry) (c : Cell) : Bool := xor (lineValue c e.line) e.invert

/-- The record of a tap after a cell in the stamp window is offered. -/
def offeredRecord (p : Port) (c : Cell) (e : TapEntry) (r : TapRecord) : TapRecord :=
  if wantsCell p c e r then takeSample e (rawValue e c) (lineTrust c e.line) r else r

/-- The report of a tap to which a cell in the stamp window is offered, if it makes one. -/
def offeredReport (p : Port) (c : Cell) (e : TapEntry) (r : TapRecord) (t : TapNo) : Option TapReport :=
  tapReport t r (offeredRecord p c e r)
    (wantsCell p c e r && sampleTransitions e (rawValue e c) (lineTrust c e.line) r)

/-- R6, R10: a STATE or DERIVED cell is offered to the tap unit. In the stamp window every tap that
wants it samples it; outside, the port counts it as late when some tap wants it. The samples of one cell are one
command, but R38 and R95 have the cross-connect's takings of their reports fall between them or after them: which is
left open, by `unseen` (log entry 23). -/
def offerToTaps (p : Port) (c : Cell) (s : State) : State :=
  let u := s.tap
  if inWindow c.stamp s.cycle.count then
    let reports := (indices 192).filterMap fun t => offeredReport p c (u.entries.get t) (u.records.get t) t
    reportTaps (if reports.isEmpty then s.xc.unseen else reports.length) reports
      { s with tap := { u with records := Tab.ofFn fun t => offeredRecord p c (u.entries.get t) (u.records.get t) } }
  else if (indices 192).any fun t => wantsCell p c (u.entries.get t) (u.records.get t) then
    s.onPort p (countOn fun k => { k with lateCells := k.lateCells + 1 })
  else s

/-- R15: an enabled tap's countdown and age at a cycle start. -/
def aged (r : TapRecord) : TapRecord := { r with spacing := r.spacing - 1, age := min 255 (r.age + 1) }

/-- R16: whether a tap, its age already increased, goes STALE. -/
def staleNow (e : TapEntry) (r : TapRecord) : Bool :=
  e.stale != 0 && (r.cond == .live || r.cond == .suspect) && e.stale ≤ r.age

/-- R16: going STALE. -/
def goStale (r : TapRecord) : TapRecord := { r with cond := .stale, run := 0, candidate := r.qualified }

/-- R1, R15, R16: a tap takes a cycle start under an entry it keeps. -/
def tapCycle (e : TapEntry) (r : TapRecord) : TapRecord :=
  if e.enabled then
    if staleNow e (aged r) then goStale (aged r) else aged r
  else r

/-- The tap entries in force after a cycle start. -/
def tapEntriesAfter (c : CycleStart) (old : Tab 192 TapEntry) : Tab 192 TapEntry :=
  match c.swap with
  | none => old
  | some w => w.bank.taps

/-- R15, R21: the record of a tap after a cycle start: aged under an entry it keeps, placed in its
initial state under a changed one. -/
def tapAfter (c : CycleStart) (old : Tab 192 TapEntry) (t : TapNo) (r : TapRecord) : TapRecord :=
  let e := (tapEntriesAfter c old).get t
  if old.get t = e then tapCycle e r else initialTap e

/-- R18, R21: the report of a tap at a cycle start: none from a tap placed in its initial state. -/
def tapCycleReport (c : CycleStart) (old : Tab 192 TapEntry) (t : TapNo) (r : TapRecord) : Option TapReport :=
  if old.get t = (tapEntriesAfter c old).get t then tapReport t r (tapAfter c old t r) false else none

/-- R15, R21: the tap unit's work for one cycle start. -/
def tapUnitCycle (c : CycleStart) (rest : List CycleStart) (s : State) : State :=
  let u := s.tap
  reportTaps 0 ((indices 192).filterMap fun t => tapCycleReport c u.entries t (u.records.get t))
    { s with tap :=
        { entries := tapEntriesAfter c u.entries
          records := Tab.ofFn fun t => tapAfter c u.entries t (u.records.get t)
          inbox   := rest } }

/-- The tap unit takes the oldest cycle start waiting for it; with none waiting nothing happens. -/
def tapUnitTakes (s : State) : State :=
  match s.tap.inbox with
  | [] => s
  | c :: rest => unlessHeld s (tapUnitCycle c rest s)

/-- Whether the cycle start waiting for the tap unit makes a tap go STALE (R16). -/
def tapWillGoStale (s : State) (t : TapNo) : Bool :=
  match s.tap.inbox with
  | [] => false
  | c :: _ =>
    let e := s.tap.entries.get t
    e == (tapEntriesAfter c s.tap.entries).get t && e.enabled && staleNow e (aged (s.tap.records.get t))

/-- TAP_CYCLE_START (R15, R16, R21). -/
def execTapCycleStart (s : State) : Host.Outcome State Fault Refusal := .next (tapUnitTakes s)

/-- GOING_STALE (R16): the taking of the cycle start at which this tap goes STALE. Where no waiting cycle
start makes it go STALE, the event does not come about and nothing changes (DEDUCED, log entry 5). -/
def execGoingStale (tap : Nat) (s : State) : Host.Outcome State Fault Refusal :=
  .next (if h : tap < 192 then if tapWillGoStale s ⟨tap, h⟩ then tapUnitTakes s else s else s)

end Sys2Proof.Machine
end

