-- ==== Sys2Proof/Machine/CrossConnect.lean ====
section
/-! DEFINITION. The cross-connect (chapter 2): combining, the point condition machine, forces at a
cycle start, carry-over at a swap. The two force requests stand in Management.lean. -/

namespace Sys2Proof.Machine

/-! ### Sources -/

/-- Whether some cycle start in a run of them changes a tap's entry. -/
def swapsChange (t : TapNo) : Tab 192 TapEntry → List CycleStart → Bool
  | _, [] => false
  | entries, c :: rest =>
    entries.get t != (tapEntriesAfter c entries).get t || swapsChange t (tapEntriesAfter c entries) rest

/-- R45: whether the cross-connect takes a tap as being in its initial state because it has taken the
cycle start of a swap that changes the tap's entry and the tap unit has not. The cycle starts that
the cross-connect has taken and the tap unit has not are the oldest in the tap unit's inbox. -/
def takenAsInitial (s : State) (t : TapNo) : Bool :=
  swapsChange t s.tap.entries (s.tap.inbox.take (s.tap.inbox.length - s.xc.inbox.length))

/-- R28, R45: the value of a source, absent when the source is unusable. That a tap a swap changes is unusable
in the work on the old entries too is DEDUCED (log entry 13). -/
def sourceValue (s : State) (t : TapNo) : Option Bool :=
  let r := s.tap.records.get t
  if r.cond == .live && !takenAsInitial s t then some r.qualified else none

/-! ### Combining (R29 to R32) -/

/-- A combine result: undefined, or a value with the condition NORMAL or DEGRADED. -/
abbrev CombineResult := Option (Bool × PointCond)

/-- R30: NORMAL when every listed source is usable, else DEGRADED. -/
def fullOrDegraded (sources : List (Option Bool)) : PointCond :=
  if sources.all Option.isSome then .normal else .degraded

/-- R29: FOLLOW. -/
def combineFollow : List (Option Bool) → CombineResult
  | [some v] => some (v, .normal)
  | _ => none

/-- R30: ANY. -/
def combineAny (sources : List (Option Bool)) : CombineResult :=
  if sources.any Option.isSome then some (sources.any (· == some true), fullOrDegraded sources) else none

/-- R29: ALL. -/
def combineAll (sources : List (Option Bool)) : CombineResult :=
  if !sources.isEmpty && sources.all Option.isSome then some (sources.all (· == some true), .normal) else none

/-- R31: two usable sources of a VOTE. -/
def voteTwo (a b : Bool) : CombineResult := if a == b then some (a, .degraded) else none

/-- R31: VOTE. -/
def combineVote : List (Option Bool) → CombineResult
  | [some a, some b, some c] => some ((a && b) || (a && c) || (b && c), .normal)
  | [some a, some b, none] => voteTwo a b
  | [some a, none, some c] => voteTwo a c
  | [none, some b, some c] => voteTwo b c
  | _ => none

/-- R29 to R32: the combine result of a function over its sources; what it gives a list that validation
refuses is DEDUCED (log entry 15). -/
def combine (fn : Combine) (sources : List (Option Bool)) : CombineResult :=
  match fn with
  | .follow => combineFollow sources
  | .any => combineAny sources
  | .all => combineAll sources
  | .vote => combineVote sources

/-- The combine result of a point under a bind entry. -/
def combineResult (s : State) (e : BindEntry) : CombineResult := combine e.fn (e.sources.map (sourceValue s))

/-! ### The point condition machine (R35 to R37) -/

/-- R35: a defined result. -/
def applyDefined (v : Bool) (c : PointCond) (r : PointRecord) : PointRecord :=
  { r with cond := c, combined := v, lastGood := v, hold := 0 }

/-- R36, R37: falling into FAILSAFE. -/
def fallToFailsafe (e : BindEntry) (r : PointRecord) : PointRecord :=
  { r with cond := .failsafe, combined := e.failSafe, hold := 0 }

/-- R36: an undefined result. -/
def applyUndefined (e : BindEntry) (r : PointRecord) : PointRecord :=
  match r.cond with
  | .normal | .degraded =>
    if 0 < e.hold then { r with cond := .holding, combined := r.lastGood, hold := e.hold }
    else fallToFailsafe e r
  | .holding => r
  | .failsafe => r

/-- R35, R36: a combine result applied to a point. -/
def applyResult (e : BindEntry) (res : CombineResult) (r : PointRecord) : PointRecord :=
  match res with
  | some (v, c) => applyDefined v c r
  | none => applyUndefined e r

/-- R37: a combine result applied to a point whose hold expires. -/
def applyAtExpiry (e : BindEntry) (res : CombineResult) (r : PointRecord) : PointRecord :=
  match res with
  | some (v, c) => applyDefined v c r
  | none => fallToFailsafe e r

/-- R39: the change count moves when the published value differs. -/
def countChange (before : PointRecord) (after : PointRecord) : PointRecord :=
  { after with changes := if before.published == after.published then before.changes else before.changes + 1 }

/-- R38: a recomputation of a point with its force record: result, published value and quality, change
count. -/
def recomputed (s : State) (e : BindEntry) (f : Option ForceRecord) (r : PointRecord) : PointRecord :=
  countChange r (withPublished e f (applyResult e (combineResult s e) r))

/-- R39: the report of a point, if anything R39 compares differs. -/
def pointReport (p : PointNo) (before after : PointFace) : Option PointReport :=
  if before == after then none else some ⟨p, before, after⟩

/-! ### A tap report -/

/-- R38: the tap records with the taps of some reports as they stood before those reports. -/
def beforeReports (l : List TapReport) (u : TapUnit) : TapUnit :=
  { u with records := Tab.ofFn fun t =>
      match l.find? fun r => r.tap == t with
      | some r => { u.records.get t with qualified := r.before.value, cond := r.before.cond }
      | none => u.records.get t }

/-- R38: how many of the newest waiting reports are of taps that the cross-connect finds unsampled when it takes a report
and leaves `rest`: none but the reports of one cell of which it has seen no later sample, and which of those is left open
(log entry 23). -/
def unseenAt (rest : List TapReport) (s : State) : Nat :=
  if s.xc.unseen = 0 then 0 else min (min s.xc.unseen rest.length) (Config.samplesUnseen s.drawn)

/-- R38: the part as the cross-connect finds it when it takes a tap report and leaves `rest`. -/
def foundAt (rest : List TapReport) (s : State) : State :=
  { s with tap := beforeReports (rest.drop (rest.length - unseenAt rest s)) s.tap }

/-- The record of a point after a tap report is taken. -/
def afterTapReport (s : State) (t : TapNo) (p : PointNo) : PointRecord :=
  let e := s.xc.entries.get p
  if e.sources.contains t then recomputed s e (s.xc.forces.get p) (s.xc.records.get p) else s.xc.records.get p

/-- R38: the cross-connect takes a tap report: every point that lists the tap is recomputed, from the taps as the
cross-connect finds them. -/
def xcTakeReport (rep : TapReport) (rest : List TapReport) (s : State) : State :=
  let after := afterTapReport (foundAt rest s) rep.tap
  reportPoints 0 ((indices 128).filterMap fun p =>
      pointReport p (pointFace (s.xc.forces.get p) (s.xc.records.get p)) (pointFace (s.xc.forces.get p) (after p)))
    { s with drawn := s.drawn + 1, xc := { s.xc with
        reports := rest, records := Tab.ofFn after, unseen := unseenAt rest s } }

/-! ### The force of a point -/

/-- R38, R41, R42: a point's force record becomes `f`, and the point is recomputed and reported, from the taps as they
stand (R20). -/
def setForce (p : PointNo) (f : Option ForceRecord) (s : State) : State :=
  let r := s.xc.records.get p
  let r' := recomputed s (s.xc.entries.get p) f r
  reportPoints 0 (pointReport p (pointFace (s.xc.forces.get p) r) (pointFace f r')).toList
    { s with xc := { s.xc with forces := s.xc.forces.set p f, records := s.xc.records.set p r', unseen := 0 } }

/-! ### A cycle start -/

/-- R37: whether a point's hold expires at the cycle start. -/
def holdEnds (r : PointRecord) : Bool := r.cond == .holding && r.hold ≤ 1

/-- R37: the hold countdown of a point lowered. -/
def holdLowered (r : PointRecord) : PointRecord := if r.cond == .holding then { r with hold := r.hold - 1 } else r

/-- R43: whether a force record runs out at the cycle start. -/
def forceEnds : Option ForceRecord → Bool
  | none => false
  | some f =>
    match f.remaining with
    | none => false
    | some d => d ≤ 1

/-- R43: a force record after the cycle start: removed when it runs out, else its duration lowered. -/
def forceAfter (f : Option ForceRecord) : Option ForceRecord :=
  if forceEnds f then none else f.map fun x => { x with remaining := x.remaining.map (· - 1) }

/-- R37, R43: the record of a point after the cycle-start work, the hold and the force taken together. -/
def pointAfterWork (s : State) (e : BindEntry) (f : Option ForceRecord) (r : PointRecord) : PointRecord :=
  if holdEnds r then
    countChange r (withPublished e (forceAfter f) (applyAtExpiry e (combineResult s e) (holdLowered r)))
  else if forceEnds f then recomputed s e (forceAfter f) (holdLowered r)
  else holdLowered r

/-- R37, R43: the cross-connect's cycle-start work on its bind entries, point by point, each compared
once by R39. -/
def xcCycleWork (s : State) : State :=
  let x := s.xc
  let after := fun p => pointAfterWork s (x.entries.get p) (x.forces.get p) (x.records.get p)
  reportPoints 0 ((indices 128).filterMap fun p =>
      pointReport p (pointFace (x.forces.get p) (x.records.get p)) (pointFace (forceAfter (x.forces.get p)) (after p)))
    { s with xc := { x with records := Tab.ofFn after, forces := Tab.ofFn fun p => forceAfter (x.forces.get p) } }

/-- R45, R46: the record of a point after a swap: recomputed under an entry it keeps; placed in its
initial state and recomputed, its change count 0, under a changed one. Where a carried-over source of a changed entry
goes STALE at the swap's own cycle start and leaves it without a result, R34 to R36 give FAILSAFE when the tap unit takes
that cycle start first, and HOLDING under a hold above 0 when the cross-connect does; the last sentence of R45 has one
condition. That R34 to R36 decide is a DESIGN CHOICE (log entry 24). -/
def pointAfterSwap (s : State) (old new : BindEntry) (f : Option ForceRecord) (r : PointRecord) : PointRecord :=
  if old = new then recomputed s new f r
  else { withPublished new f (applyResult new (combineResult s new) (initialPoint new f)) with changes := 0 }

/-- R69: the cycle starts the notice unit is to take before it takes the reports of the swap that the
cross-connect has just taken: those in its inbox up to that cycle start. -/
def reportsBehind (s : State) : Nat := s.notice.inbox.length - s.xc.inbox.length

/-- R45, R46: the cross-connect applies a swap. -/
def xcApplySwap (binds : Tab 128 BindEntry) (s : State) : State :=
  let x := s.xc
  let after := fun p => pointAfterSwap s (x.entries.get p) (binds.get p) (x.forces.get p) (x.records.get p)
  reportPoints (reportsBehind s) ((indices 128).filterMap fun p =>
      pointReport p (pointFace (x.forces.get p) (x.records.get p)) (pointFace (x.forces.get p) (after p)))
    { s with xc := { x with entries := binds, records := Tab.ofFn after } }

/-- R45: the cross-connect's work for one cycle start: on the old bind entries first, then the swap. A STALE report of
that cycle start may be taken before it or after it; by R37 a point with H 1 that the report leaves without a result
then ends in FAILSAFE or in HOLDING, where the last sentence of R45 has one condition. That R37 decides is a DESIGN
CHOICE (log entry 24), as it is that R34 to R36 decide for a changed entry (`pointAfterSwap`). -/
def xcCycle (c : CycleStart) (rest : List CycleStart) (s : State) : State :=
  let worked := xcCycleWork { s with xc := { s.xc with inbox := rest, unseen := 0 } }
  match c.swap with
  | none => worked
  | some w => xcApplySwap w.bank.binds worked

/-- The cross-connect takes the oldest cycle start waiting for it; with none waiting nothing happens. -/
def xcTakes (s : State) : State :=
  match s.xc.inbox with
  | [] => s
  | c :: rest => unlessHeld s (xcCycle c rest s)

/-- XC_TAP_REPORT (R38): the cross-connect takes the oldest tap report waiting for it. -/
def execXcTapReport (s : State) : Host.Outcome State Fault Refusal :=
  .next (match s.xc.reports with
    | [] => s
    | rep :: rest => unlessHeld s (xcTakeReport rep rest s))

/-- XC_CYCLE_START (R37, R43, R45). -/
def execXcCycleStart (s : State) : Host.Outcome State Fault Refusal := .next (xcTakes s)

/-- HOLD_EXPIRY (R37): the taking of the cycle start at which this point's hold expires. Where the point
is not at the end of a hold, the event does not come about and nothing changes (DEDUCED, log entry 5). -/
def execHoldExpiry (point : Nat) (s : State) : Host.Outcome State Fault Refusal :=
  .next (if h : point < 128 then if holdEnds (s.xc.records.get ⟨point, h⟩) then xcTakes s else s else s)

/-- FORCE_EXPIRY (R43): the taking of the cycle start at which this point's force record runs out. Where
it has no record at its end, the event does not come about and nothing changes (DEDUCED, log entry 5). -/
def execForceExpiry (point : Nat) (s : State) : Host.Outcome State Fault Refusal :=
  .next (if h : point < 128 then if forceEnds (s.xc.forces.get ⟨point, h⟩) then xcTakes s else s else s)

end Sys2Proof.Machine
end

