-- ==== Sys2Proof/Machine/Notices.lean ====
section
/-! DEFINITION. The raising side of the notice unit (chapter 3): occurrences, coalescing, absorbing,
raising, the notice queue, withdrawal, carry-over at a swap. The gates are set in Management.lean. -/

namespace Sys2Proof.Machine

/-! ### The records and the queue -/

/-- The state with one watch's runtime record changed. -/
def State.onWatch (s : State) (w : WatchNo) (f : WatchRecord → WatchRecord) : State :=
  { s with notice := { s.notice with records := s.notice.records.set w (f (s.notice.records.get w)) } }

/-- The state with the notice queue replaced. -/
def State.withQueue (s : State) (q : List Notice) : State := { s with notice := { s.notice with queue := q } }

/-- The lost counter goes up by one (R66). -/
def countLost (s : State) : State := { s with notice := { s.notice with lost := s.notice.lost + 1 } }

/-- Whether the queue holds a notice of a watch. -/
def queuedFor (q : List Notice) (w : WatchNo) : Bool := q.any fun n => n.watch == w

/-- R59: a notice is placed after every queued notice of its own class and of every more urgent class,
and before every queued notice of a less urgent class. -/
def insertNotice (n : Notice) : List Notice → List Notice
  | [] => [n]
  | m :: rest => if m.cls ≤ n.cls then m :: insertNotice n rest else n :: m :: rest

/-- R58, R59: a notice is inserted: its watch's queued mark is set and its holdoff loaded. -/
def enqueueNotice (n : Notice) (s : State) : State :=
  (s.withQueue (insertNotice n s.notice.queue)).onWatch n.watch fun r =>
    { r with queued := true, holdoff := (s.notice.entries.get n.watch).holdoff }

/-- R60: the last notice in the queue is displaced. -/
def displaceLast (s : State) : State :=
  match s.notice.queue.getLast? with
  | none => s
  | some m => countLost ((s.withQueue s.notice.queue.dropLast).onWatch m.watch fun r => { r with queued := false })

/-- R59, R60: a raised notice is inserted, displaces the last notice, or is dropped. -/
def offerNotice (n : Notice) (s : State) : State :=
  if s.notice.queue.length < Config.noticeCapacity then enqueueNotice n s
  else if s.notice.queue.any fun m => n.cls < m.cls then enqueueNotice n ((displaceLast s).indicate .overflow)
  else (countLost s).indicate .overflow

/-! ### Occurrences -/

/-- What an occurrence brings: the subject's value and condition, with the forced mark (R52, R58). -/
structure Occurrence where
  value  : Bool
  cond   : Condition
  forced : Bool
deriving DecidableEq, Repr

/-- R56: an occurrence folded into a notice. -/
def foldInto (o : Occurrence) (count : Word16) (n : Notice) : Notice :=
  { n with count := min 255 (n.count + 1), last := count, value := o.value, cond := o.cond, forced := o.forced }

/-- R56: coalescing. -/
def coalesce (w : WatchNo) (o : Occurrence) (count : Word16) (s : State) : State :=
  s.withQueue (s.notice.queue.map fun n => if n.watch = w then foldInto o count n else n)

/-- R57: absorbing. -/
def absorb (w : WatchNo) (s : State) : State :=
  let t := s.onWatch w fun r => { r with absorbed := r.absorbed + 1 }
  { t with notice := { t.notice with absorbedTotal := t.notice.absorbedTotal + 1 } }

/-- R58: the notice a watch raises. -/
def newNotice (w : WatchNo) (e : WatchEntry) (o : Occurrence) (count : Word16) : Notice :=
  ⟨w, e.cls, e.trigger, o.value, o.cond, o.forced, count, count, 1⟩

/-- R58: raising. -/
def raise (w : WatchNo) (o : Occurrence) (count : Word16) (s : State) : State :=
  offerNotice (newNotice w (s.notice.entries.get w) o count)
    { s with notice := { s.notice with raised := s.notice.raised + 1 } }

/-- R55: a watch takes an occurrence: it is coalesced, absorbed or raised. -/
def takeOccurrence (w : WatchNo) (o : Occurrence) (count : Word16) (s : State) : State :=
  if (s.notice.records.get w).queued then coalesce w o count s
  else if 0 < (s.notice.records.get w).holdoff then absorb w s
  else raise w o count s

/-- R62: the queued notice of a watch is withdrawn. -/
def withdraw (w : WatchNo) (s : State) : State :=
  if queuedFor s.notice.queue w then
    let t := (s.withQueue (s.notice.queue.eraseP fun n => n.watch == w)).onWatch w fun r => { r with queued := false }
    { t with notice := { t.notice with withdrawn := t.notice.withdrawn + 1 } }
  else s

/-! ### Reports (R52) -/

/-- Whether a tap report is an occurrence for a trigger. -/
def tapOccurs (tr : Trigger) (r : TapReport) : Bool :=
  match tr with
  | .rise => r.transition && !r.before.value && r.after.value
  | .fall => r.transition && r.before.value && !r.after.value
  | .change => r.transition
  | .condition => r.before.cond != r.after.cond
  | .high => false
  | .low => false

/-- Whether a point report is an occurrence for a trigger. -/
def pointOccurs (tr : Trigger) (r : PointReport) : Bool :=
  match tr with
  | .rise => !r.before.value && r.after.value
  | .fall => r.before.value && !r.after.value
  | .change => r.before.value != r.after.value
  | .condition => r.before.cond != r.after.cond || r.before.forced != r.after.forced
  | .high => false
  | .low => false

/-- R62: whether a value is off the level of a HIGH or LOW watch. -/
def offLevel (tr : Trigger) (value : Bool) : Bool :=
  match tr with
  | .high => !value
  | .low => value
  | .rise => false
  | .fall => false
  | .change => false
  | .condition => false

/-- R20, R33, R54: what the notice unit reads of a subject. -/
def readSubject (s : State) : Subject → Occurrence
  | .tap t => ⟨(s.tap.records.get t).qualified, .tap (s.tap.records.get t).cond, false⟩
  | .point p => ⟨(s.xc.records.get p).published, .point (s.xc.records.get p).cond, (s.xc.forces.get p).isSome⟩

/-- R20, R33, R52, R58: the occurrence of a report: what the report says of its subject, by R52, or what the notice unit
reads of it at the taking, by R20 and R33. The two differ when the subject has changed since the report was made; which
decides is left open (log entry 25). -/
def reportOccurrence (s : State) (x : Subject) (reported : Occurrence) : Occurrence :=
  if Config.noticeReadsSubject then readSubject s x else reported

/-- R52, R58: the occurrence of a tap report. -/
def tapOccurrence (s : State) (r : TapReport) : Occurrence :=
  reportOccurrence s (.tap r.tap) ⟨r.after.value, .tap r.after.cond, false⟩

/-- R52, R58: the occurrence of a point report. -/
def pointOccurrence (s : State) (r : PointReport) : Occurrence :=
  reportOccurrence s (.point r.point) ⟨r.after.value, .point r.after.cond, r.after.forced⟩

/-- R52, R62: a report on a watch's subject, which is an occurrence for its trigger or may withdraw its
queued notice. That the level test uses the value the report carries is DEDUCED (log entry 14). -/
def offerToWatch (w : WatchNo) (e : WatchEntry) (occurs carried : Bool) (o : Occurrence) (s : State) : State :=
  if occurs then takeOccurrence w o s.cycle.count s
  else if offLevel e.trigger carried then withdraw w s
  else s

/-- R52: whether a watch is offered the reports of a subject. -/
def watches (e : WatchEntry) (x : Subject) : Bool := e.enabled && e.subject == x

/-- R52: a tap report is offered to the enabled watches on the tap, in ascending watch number. -/
def offerTapReport (r : TapReport) (s : State) : State :=
  let o := tapOccurrence s r
  (indices 48).foldl (fun s w =>
    let e := s.notice.entries.get w
    if watches e (.tap r.tap) then offerToWatch w e (tapOccurs e.trigger r) r.after.value o s else s) s

/-- R52: a point report is offered to the enabled watches on the point, in ascending watch number. -/
def offerPointReport (r : PointReport) (s : State) : State :=
  let o := pointOccurrence s r
  (indices 48).foldl (fun s w =>
    let e := s.notice.entries.get w
    if watches e (.point r.point) then offerToWatch w e (pointOccurs e.trigger r) r.after.value o s else s) s

/-! ### A cycle start (R53, R54, R68) -/

/-- R53: the holdoff of every enabled watch lowered. -/
def lowerHoldoffs (s : State) : State :=
  { s with notice := { s.notice with records := Tab.ofFn fun w =>
      let r := s.notice.records.get w
      if (s.notice.entries.get w).enabled then { r with holdoff := r.holdoff - 1 } else r } }

/-- R54: whether a trigger is a level. -/
def isLevel : Trigger → Bool
  | .high => true
  | .low => true
  | .rise => false
  | .fall => false
  | .change => false
  | .condition => false

/-- R54: the level evaluation of one watch. -/
def evaluateLevel (count : Word16) (w : WatchNo) (s : State) : State :=
  let e := s.notice.entries.get w
  let r := s.notice.records.get w
  let o := readSubject s e.subject
  if e.enabled && isLevel e.trigger then
    if offLevel e.trigger o.value then (if r.queued then withdraw w s else s)
    else if !r.queued && r.holdoff == 0 then takeOccurrence w o count s
    else s
  else s

/-- R68: at a swap, a watch whose entry changed has its queued notice withdrawn and is placed in its
initial state. -/
def carryWatch (new : Tab 48 WatchEntry) (w : WatchNo) (s : State) : State :=
  if s.notice.entries.get w = new.get w then s else (withdraw w s).onWatch w fun _ => initialWatch

/-- R68: the raising side applies a swap. -/
def noticeApplySwap (new : Tab 48 WatchEntry) (s : State) : State :=
  let t := (indices 48).foldl (fun s w => carryWatch new w s) s
  { t with notice := { t.notice with entries := new } }

/-- R69: a waiting point report has one cycle start fewer before it. -/
def oneCloser (r : WaitingReport) : WaitingReport := { r with behind := r.behind - 1 }

/-- R53, R54, R68: the raising side's work for one cycle start. -/
def noticeCycle (c : CycleStart) (rest : List CycleStart) (s : State) : State :=
  let t := { s with notice := { s.notice with inbox := rest, pointReports := s.notice.pointReports.map oneCloser } }
  let u := (indices 48).foldl (fun s w => evaluateLevel c.count w s) (lowerHoldoffs t)
  match c.swap with
  | none => u
  | some w => noticeApplySwap w.bank.watches u

/-- The raising side takes the oldest cycle start waiting for it; with none waiting nothing happens. -/
def noticeTakes (s : State) : State :=
  match s.notice.inbox with
  | [] => s
  | c :: rest => unlessHeld s (noticeCycle c rest s)

/-- The notice unit takes a tap report. -/
def noticeTakeTapReport (r : TapReport) (rest : List TapReport) (s : State) : State :=
  offerTapReport r { s with notice := { s.notice with tapReports := rest } }

/-- The point report that the notice unit may take next, and the reports it leaves: the oldest that neither waits
for the cycle start of its swap (R69) nor stands behind a waiting report of its own point (R39). `held` names the
points whose waiting reports have been passed over. That a report of another point may pass a waiting one is
DEDUCED (log entry 11). -/
def nextPointReport (held : List PointNo) : List WaitingReport → Option (PointReport × List WaitingReport)
  | [] => none
  | r :: rest =>
    if r.behind = 0 ∧ r.report.point ∉ held then some (r.report, rest)
    else (nextPointReport (r.report.point :: held) rest).map fun x => (x.1, r :: x.2)

/-- The notice unit takes a point report. -/
def noticeTakePointReport (r : PointReport) (rest : List WaitingReport) (s : State) : State :=
  offerPointReport r { s with notice := { s.notice with pointReports := rest } }

/-- WATCH_TAP_REPORT (R52): the notice unit takes the oldest tap report waiting for it. -/
def execWatchTapReport (s : State) : Host.Outcome State Fault Refusal :=
  .next (match s.notice.tapReports with
    | [] => s
    | r :: rest => unlessHeld s (noticeTakeTapReport r rest s))

/-- WATCH_POINT_REPORT (R52, R69): the notice unit takes the oldest point report that it may take. -/
def execWatchPointReport (s : State) : Host.Outcome State Fault Refusal :=
  .next (match nextPointReport [] s.notice.pointReports with
    | none => s
    | some x => unlessHeld s (noticeTakePointReport x.1 x.2 s))

/-- NOTICE_CYCLE_START (R53, R54, R68). -/
def execNoticeCycleStart (s : State) : Host.Outcome State Fault Refusal := .next (noticeTakes s)

end Sys2Proof.Machine
end

