-- ==== Sys2Proof/Machine/Delivery.lean ====
section
/-! DEFINITION. The delivery side of the notice unit (chapter 4): retries, expiry, emission, sequence
numbers. Its two requests stand in Management.lean. -/

namespace Sys2Proof.Machine

/-- R81: a NOTICE cell for a record is made, with the attention flag as the indicators stand and at the count that cycle
timing holds (R100), and placed in the trunk NOTICE queue. -/
def sendNotice (retransmission : Bool) (f : FlightRecord) (s : State) : State :=
  { s with trunk := placeNotice (makeNoticeCell s.engine.station (attention s) retransmission s.cycle.count f) s.trunk }

/-- Whether the trunk NOTICE queue holds fewer than 8 cells. -/
def noticeRoom (s : State) : Bool := s.trunk.notice.length < Config.noticeCellCapacity

/-! ### Retries (R77, R78) -/

/-- R77: a record with its countdown lowered. -/
def countedDown (f : FlightRecord) : FlightRecord := { f with countdown := f.countdown - 1 }

/-- R77: whether a record is due at a cycle start. -/
def isDue (f : FlightRecord) : Bool := f.countdown ≤ 1

/-- R77: a record after its retransmission. -/
def resent (interval : Nat) (f : FlightRecord) : FlightRecord :=
  { f with attempt := f.attempt + 1, attemptsLeft := f.attemptsLeft - 1, countdown := interval }

/-- R77, R78: one record at a cycle start: what stays of it in the list, and the state after it. -/
def retryRecord (f : FlightRecord) (s : State) : Option FlightRecord × State :=
  if isDue f then
    if 0 < f.attemptsLeft then
      if noticeRoom s then
        (some (resent s.delivery.retryInterval f), sendNotice true (resent s.delivery.retryInterval f) s)
      else (some (countedDown f), s)
    else (none, (countLost s).indicate .loss)
  else (some (countedDown f), s)

/-- R77: the retries, record by record in list order. -/
def retryAll : List FlightRecord → State → List FlightRecord × State
  | [], s => ([], s)
  | f :: rest, s =>
    let (kept, t) := retryRecord f s
    let (more, u) := retryAll rest t
    (kept.toList ++ more, u)

/-- R77: the retries of a cycle start. -/
def retries (s : State) : State :=
  let (list, t) := retryAll s.delivery.inFlight s
  { t with delivery := { t.delivery with inFlight := list } }

/-! ### Emission (R76, R79, R80) -/

/-- R76: the first value from the counter on that no record holds; as many steps are tried as there are
records. -/
def freeSequence (used : List Byte) : Nat → Byte → Byte
  | 0, b => b
  | k + 1, b => if used.contains b then freeSequence used k (b + 1) else b

/-- R76: the sequence number the next emission gives. -/
def nextSequence (s : State) : Byte :=
  freeSequence (s.delivery.inFlight.map (·.sequence)) s.delivery.inFlight.length s.delivery.sequence

/-- R80: the in-flight record of a notice emitted with a sequence number. -/
def flightRecord (s : State) (n : Notice) (seq : Byte) : FlightRecord :=
  ⟨n, seq, s.delivery.retryInterval, s.delivery.attempts, 0⟩

/-- R80: a notice is emitted. -/
def emitNotice (n : Notice) (s : State) : State :=
  let f := flightRecord s n (nextSequence s)
  let t := (s.withQueue (s.notice.queue.erase n)).onWatch n.watch fun r => { r with queued := false }
  sendNotice false f
    { t with delivery := { t.delivery with inFlight := t.delivery.inFlight ++ [f], sequence := f.sequence + 1 } }

/-- R79: the first queued notice whose class gate is OPEN. -/
def nextNotice (s : State) : Option Notice := s.notice.queue.find? fun n => s.notice.gates.get n.cls

/-- R79: up to a number of emissions, one after another. -/
def emitUpTo : Nat → State → State
  | 0, s => s
  | k + 1, s =>
    match nextNotice s with
    | none => s
    | some n =>
      if s.delivery.inFlight.length < Config.flightCapacity && noticeRoom s then emitUpTo k (emitNotice n s) else s

/-- R77, R79: the delivery side's work for one cycle start: retries first, new emissions second. -/
def deliveryCycle (rest : List CycleStart) (s : State) : State :=
  let t := retries { s with delivery := { s.delivery with inbox := rest } }
  emitUpTo t.delivery.budget t

/-- The delivery side takes the oldest cycle start waiting for it; with none waiting nothing happens. -/
def deliveryTakes (s : State) : State :=
  match s.delivery.inbox with
  | [] => s
  | _ :: rest => unlessHeld s (deliveryCycle rest s)

/-- Whether the list holds a record with this sequence number that is due with attempts left, or with
none. -/
def dueWith (seq : Byte) (left : Bool) (s : State) : Bool :=
  s.delivery.inFlight.any fun f => f.sequence == seq && isDue f && (decide (0 < f.attemptsLeft) == left)

/-- DELIVERY_CYCLE_START (R77 to R80). -/
def execDeliveryCycleStart (s : State) : Host.Outcome State Fault Refusal := .next (deliveryTakes s)

/-- RETRANSMISSION (R77): the taking of the cycle start at which this record is due with attempts left,
which resends it or postpones it. Where no such record is due, the event does not come about and
nothing changes (DEDUCED, log entry 5). -/
def execRetransmission (sequence : Byte) (s : State) : Host.Outcome State Fault Refusal :=
  .next (if dueWith sequence true s then deliveryTakes s else s)

/-- NOTICE_EXPIRY (R78): the taking of the cycle start at which this record is due with no attempts left.
Where no such record is due, the event does not come about and nothing changes (DEDUCED, log entry 5). -/
def execNoticeExpiry (sequence : Byte) (s : State) : Host.Outcome State Fault Refusal :=
  .next (if dueWith sequence false s then deliveryTakes s else s)

end Sys2Proof.Machine
end

