-- ==== Sys2Proof/Machine/Publisher.lean ====
section
/-! DEFINITION. The publisher (chapter 5): the changed mark, emission at a cycle start, carry-over at a
swap. -/

namespace Sys2Proof.Machine

/-- The state with one group's publish runtime changed. -/
def State.onGroup (s : State) (g : GroupNo) (f : PublishRuntime → PublishRuntime) : State :=
  { s with publisher := { s.publisher with records := s.publisher.records.set g (f (s.publisher.records.get g)) } }

/-- R88: the group of a point. -/
def groupOf (p : PointNo) : GroupNo := ⟨p.val / 32, by omega⟩

/-- R88: the point that line `i` of a group's cell carries. -/
def groupPoint (g : GroupNo) (i : Fin 32) : PointNo := ⟨32 * g.val + i.val, by omega⟩

/-- R91: whether a point report sets the changed mark. -/
def movesPublished (r : PointReport) : Bool :=
  r.before.value != r.after.value || r.before.quality != r.after.quality

/-- R91: the publisher takes a point report. -/
def publisherTakeReport (r : PointReport) (rest : List PointReport) (s : State) : State :=
  let t := { s with publisher := { s.publisher with reports := rest } }
  if movesPublished r then t.onGroup (groupOf r.point) fun x => { x with changed := true } else t

/-- Thirty-two bits, bit `i` given by a rule. -/
def packLines (f : Fin 32 → Bool) : BitVec 32 :=
  (indices 32).foldr (fun i w => if f i then w ||| (1 <<< i.val) else w) 0

/-- R93, R95: a point as the publisher finds it, after every report on it that the publisher has taken and before
every one it has yet to take: as it stood before the oldest waiting report on it, or, with none, as it stands. -/
def pointSeen (s : State) (p : PointNo) : PointFace :=
  match s.publisher.reports.find? fun r => r.point == p with
  | some r => r.before
  | none => pointFace (s.xc.forces.get p) (s.xc.records.get p)

/-- R88, R93: the DERIVED cell of a group: a snapshot of its points' published values and qualities, with
the count the cycle start began. -/
def groupCell (s : State) (g : GroupNo) (count : Word16) : Cell :=
  makeDerivedCell s.engine.station g s.publisher.generation count
    (packLines fun i => (pointSeen s (groupPoint g i)).value)
    (packLines fun i => (pointSeen s (groupPoint g i)).quality)

/-- R89: whether a direction names a port. -/
def namesPort : Direction → Port → Bool
  | .none, _ => false
  | .up, .trunk => true
  | .up, .field => false
  | .down, .trunk => false
  | .down, .field => true
  | .both, _ => true

/-- R94: a cell is placed for each port that a direction names. -/
def placeFor (d : Direction) (c : Cell) (s : State) : State :=
  { s with trunk := if namesPort d .trunk then placeDerived c s.trunk else s.trunk,
           field := if namesPort d .field then placeDerived c s.field else s.field }

/-- R93: a group is emitted. -/
def emitGroup (count : Word16) (g : GroupNo) (s : State) : State :=
  let e := s.publisher.entries.get g
  (placeFor e.direction (groupCell s g count) s).onGroup g fun _ => ⟨e.period, false⟩

/-- R92: whether a group is due, its countdown already lowered. -/
def isGroupDue (e : PublishRecord) (r : PublishRuntime) : Bool :=
  (0 < e.period && r.countdown == 0) || (e.onChange && r.changed)

/-- R92: a group's period countdown lowered. -/
def groupLowered (r : PublishRuntime) : PublishRuntime := { r with countdown := r.countdown - 1 }

/-- R92: one group at a cycle start. -/
def groupCycle (count : Word16) (g : GroupNo) (s : State) : State :=
  let e := s.publisher.entries.get g
  if e.direction = .none then s
  else
    let t := s.onGroup g groupLowered
    if isGroupDue e (t.publisher.records.get g) then emitGroup count g t else t

/-- R97: the publisher applies a swap. -/
def publisherApplySwap (w : Swap) (s : State) : State :=
  let new := w.bank.publish
  { s with publisher := { s.publisher with
      entries    := new
      records    := Tab.ofFn fun g =>
        if s.publisher.entries.get g = new.get g then s.publisher.records.get g else ⟨(new.get g).period, true⟩
      generation := w.generation } }

/-- R92, R97: the publisher's work for one cycle start: by the old records first, then the swap. -/
def publisherCycle (c : CycleStart) (rest : List CycleStart) (s : State) : State :=
  let t := (indices 4).foldl (fun s g => groupCycle c.count g s)
    { s with publisher := { s.publisher with inbox := rest } }
  match c.swap with
  | none => t
  | some w => publisherApplySwap w t

/-- The publisher takes the oldest cycle start waiting for it; with none waiting nothing happens. -/
def publisherTakes (s : State) : State :=
  match s.publisher.inbox with
  | [] => s
  | c :: rest => unlessHeld s (publisherCycle c rest s)

/-- R92: whether a cycle start brings a group's countdown to 0 and makes it due by period. -/
def periodRunsOut (e : PublishRecord) (r : PublishRuntime) : Bool :=
  e.direction != .none && 0 < e.period && r.countdown ≤ 1

/-- PUBLISHER_POINT_REPORT (R91): the publisher takes the oldest point report waiting for it. -/
def execPublisherPointReport (s : State) : Host.Outcome State Fault Refusal :=
  .next (match s.publisher.reports with
    | [] => s
    | r :: rest => unlessHeld s (publisherTakeReport r rest s))

/-- PUBLISHER_CYCLE_START (R92 to R94, R97). -/
def execPublisherCycleStart (s : State) : Host.Outcome State Fault Refusal := .next (publisherTakes s)

/-- PERIOD_DUE (R92): the taking of the cycle start at which this group's countdown reaches 0. Where it
does not reach 0, the event does not come about and nothing changes (DEDUCED, log entry 5). -/
def execPeriodDue (group : Nat) (s : State) : Host.Outcome State Fault Refusal :=
  .next (if h : group < 4 then
    if periodRunsOut (s.publisher.entries.get ⟨group, h⟩) (s.publisher.records.get ⟨group, h⟩) then publisherTakes s
    else s
  else s)

end Sys2Proof.Machine
end

