-- ==== Sys2Proof/Machine/Cycles.lean ====
section
/-! DEFINITION. Cycle timing (chapter 6): the interval timer, its expiries, and the CYCLE cells that
arrive. SET-CYCLE stands in Management.lean. -/

namespace Sys2Proof.Machine

/-- R103: a reload of the interval timer. -/
def reloadTimer (c : CycleTiming) : CycleTiming := { c with prescaleCount := c.divide, periodCount := c.period }

/-- R106, R107: the missed count goes up by one, stopping at 255. -/
def countMissed (c : CycleTiming) : CycleTiming := { c with missed := min 255 (c.missed + 1) }

/-- The state with cycle timing changed. -/
def State.onCycle (s : State) (f : CycleTiming → CycleTiming) : State := { s with cycle := f s.cycle }

/-- R107, R109: a made CYCLE cell, with the count the cycle start began, is placed for a port. -/
def placeOwnCycle (p : Port) (holdover : Bool) (s : State) : State :=
  s.onPort p (placeCycle (makeCycleCell s.engine.station holdover s.cycle.count))

/-- R107: the cycle start of an expiry in HOLDOVER, its missed count already settled. -/
def holdoverStart (s : State) : State := placeOwnCycle .field true (handOnCycleStart (s.cycle.count + 1) s)

/-- R109: the cycle start of an expiry in ORIGINATING. -/
def originatingStart (s : State) : State :=
  placeOwnCycle .field false (placeOwnCycle .trunk false (handOnCycleStart (s.cycle.count + 1) s))

/-- R106: whether an expiry in FOLLOWING enters HOLDOVER. -/
def entersHoldover (c : CycleTiming) : Bool :=
  c.state == .following && c.established && 0 < c.watchLimit && c.watchLimit ≤ (countMissed c).missed

/-- R106: the expiry that enters HOLDOVER. -/
def holdoverEntry (s : State) : State :=
  holdoverStart ((s.onCycle fun c => { countMissed c with state := .holdover }).indicate .holdover)

/-- R103, R106, R107, R109: an expiry: the timer reloads, and cycle timing acts by the cycle state. -/
def timerExpiry (s : State) : State :=
  let t := s.onCycle reloadTimer
  match t.cycle.state with
  | .following =>
    if entersHoldover t.cycle then holdoverEntry t
    else if t.cycle.established then t.onCycle countMissed
    else t
  | .holdover => holdoverStart (t.onCycle countMissed)
  | .originating => originatingStart t

/-- R103: a tick of the reference clock. -/
def clockTick (s : State) : State :=
  if 0 < s.cycle.prescaleCount then s.onCycle fun c => { c with prescaleCount := c.prescaleCount - 1 }
  else if 1 < s.cycle.periodCount then
    s.onCycle fun c => { c with prescaleCount := c.divide, periodCount := c.periodCount - 1 }
  else timerExpiry s

/-- R105: the skew test. -/
def skewTest (stamp : Word16) (s : State) : State :=
  if s.cycle.established && stamp != s.cycle.count + 1 then
    (s.onCycle fun c => { c with skewCount := c.skewCount + 1 }).indicate .skew
  else s

/-- R105, R108: a trunk CYCLE cell taken as a cycle start: the skew test, adoption, the timer and the
missed count, hand-on, forwarding. -/
def followCycleCell (c : Cell) (s : State) : State :=
  let t := skewTest c.stamp s
  let u := t.onCycle fun k => { reloadTimer k with missed := 0, state := .following }
  (handOnCycleStart c.stamp u).onPort .field (placeCycle c)

/-- R109: a cycle conflict. -/
def cycleConflict (s : State) : State :=
  (s.onCycle fun c => { c with conflictCount := c.conflictCount + 1 }).indicate .conflict

/-- R105, R108, R109: a CYCLE cell that the trunk port hands to cycle timing. -/
def takeCycleCell (c : Cell) (s : State) : State :=
  match s.cycle.state with
  | .following => followCycleCell c s
  | .holdover => followCycleCell c s
  | .originating => cycleConflict s

/-- INTERVAL_TIMER_EXPIRY (R103, R106, R107, R109). The command states that the period counter runs out
now, whatever the two counters hold (DESIGN CHOICE, log entry 6). -/
def execIntervalTimerExpiry (s : State) : Host.Outcome State Fault Refusal := .next (unlessHeld s (timerExpiry s))

/-- ENTER_HOLDOVER (R106): the expiry that takes the part into HOLDOVER. Where an expiry would not, the
event does not come about and nothing changes (DEDUCED, log entry 5). -/
def execEnterHoldover (s : State) : Host.Outcome State Fault Refusal :=
  .next (if entersHoldover s.cycle then unlessHeld s (timerExpiry s) else s)

/-- REFERENCE_CLOCK_TICK (R103). A tick that brings an expiry brings all of it. -/
def execReferenceClockTick (s : State) : Host.Outcome State Fault Refusal := .next (unlessHeld s (clockTick s))

end Sys2Proof.Machine
end

