-- ==== Sys2Proof/Machine/Ports.lean ====
section
/-! DEFINITION. The ports (chapter 7): line state, receiving, passage, the transmit side and its
arbiter. -/

namespace Sys2Proof.Machine

/-! ### Going DOWN (R117, R118) -/

/-- The number of cells in a port's transmit side. -/
def transmitFill (ps : PortState) : Nat :=
  ps.cyclePlace.toList.length + ps.forward.length + ps.response.length + ps.derived.length + ps.notice.length

/-- A port's transmit side with every place and queue empty. -/
def emptied (ps : PortState) : PortState :=
  { ps with cyclePlace := none, forward := [], response := [], derived := [], notice := [], forwardRun := 0 }

/-- R117, R118: a port goes from UP to DOWN: every waiting cell is discarded and counted. -/
def downed (ps : PortState) : PortState :=
  { countOn (fun k => { k with discardedDown := k.discardedDown + BitVec.ofNat 32 (transmitFill ps) }) (emptied ps) with
    line := .down, goodRun := 0, badRun := 0 }

/-- R169: the response of a pending RESET-PART, if it still waits in the RESPONSE queue, is flushed. -/
def flushResetResponse (e : EngineState) : EngineState :=
  match e with
  | .running => .running
  | .resetPending scope .queued => .resetPending scope .gone
  | .resetPending scope .sending => .resetPending scope .sending
  | .resetPending scope .gone => .resetPending scope .gone

/-- The state with the engine state changed. -/
def State.onEngineState (s : State) (f : EngineState → EngineState) : State :=
  { s with engine := { s.engine with state := f s.engine.state } }

/-- R117: a port goes DOWN. A trunk port's flush takes the response of a pending RESET-PART with it. -/
def goDown (p : Port) (s : State) : State :=
  match p with
  | .trunk => ((s.onPort .trunk downed).onEngineState flushResetResponse).indicate .linkLost
  | .field => (s.onPort .field downed).indicate .linkLost

/-! ### Acquiring the line (R116) -/

/-- R116: a cell arrives at a DOWN port. -/
def acquire (good : Bool) (ps : PortState) : PortState :=
  if good then
    if ps.signal then
      if ps.goodRun < 3 then { ps with goodRun := ps.goodRun + 1 }
      else { ps with line := .up, goodRun := 0, badRun := 0 }
    else ps
  else { ps with goodRun := 0 }

/-- R116: a report of gain of signal. -/
def gainSignal (ps : PortState) : PortState := if ps.signal then ps else { ps with signal := true, goodRun := 0 }

/-- R116, R117: a report of loss of signal. -/
def loseSignal (p : Port) (s : State) : State :=
  match (s.port p).line with
  | .down => s.onPort p fun ps => { ps with signal := false, goodRun := 0 }
  | .up => (goDown p s).onPort p fun ps => { ps with signal := false }

/-! ### Receiving (R120 to R124) -/

/-- R117, R120: a cell with bad check at an UP port; the eighth in a row takes the port DOWN. -/
def receiveBad (p : Port) (s : State) : State :=
  let t := s.onPort p fun ps =>
    { countOn (fun k => { k with checkErrors := k.checkErrors + 1 }) ps with badRun := ps.badRun + 1 }
  if 8 ≤ (t.port p).badRun then goDown p t else t

/-- R124: a misplaced cell is discarded and counted. -/
def misplace (p : Port) (s : State) : State :=
  s.onPort p (countOn fun k => { k with misplaced := k.misplaced + 1 })

/-- R121: whether a cell is a station clash. -/
def isClash (s : State) (c : Cell) : Bool :=
  c.station == s.engine.station && (c.kind == .state || c.kind == .derived || c.kind == .notice)

/-- R121: a station clash. -/
def clash (p : Port) (s : State) : State :=
  (s.onPort p (countOn fun k => { k with clashes := k.clashes + 1 })).indicate .clash

/-- R126: whether the policy of a station blocks a cell that arrived on a port. -/
def blocks (e : PolicyEntry) : Port → Bool
  | .trunk => e.downBlock
  | .field => e.upBlock

/-- R126: passage of a cell that arrived on a port, by the table of the active bank. Station 255 has no
entry: a cell that carries it is misplaced, and never comes here (R124). -/
def passage (p : Port) (c : Cell) (s : State) : State :=
  if h : c.station.toNat < 255 then
    if blocks (s.bank.active.policy.get ⟨c.station.toNat, h⟩) p then
      s.onPort p (countOn fun k => { k with blocked := k.blocked + 1 })
    else s.onPort p.other (placeForward c)
  else misplace p s

/-- R159: a request record is appended to the request queue, or discarded and counted at a full one. -/
def queueRequest (r : Request) (s : State) : State :=
  if s.engine.queue.length < Config.requestCapacity then
    { s with engine := { s.engine with queue := s.engine.queue ++ [r] } }
  else { s with engine := { s.engine with requestDrops := s.engine.requestDrops + 1 } }

/-- R123, R158: a REQUEST cell that arrives on the trunk port. -/
def takeRequestCell (c : Cell) (s : State) : State :=
  if c.station == s.engine.station then queueRequest (requestOf c s.cycle.count) s
  else if c.station == 255 then (queueRequest (requestOf c s.cycle.count) s).onPort .field (placeForward c)
  else passage .trunk c s

/-- R122, R124: a RESPONSE cell at the field port: up-passage, as the table of R122 states, or misplaced, by the first
case of R124. Which decides is left open (log entry 22). -/
def takeFieldResponse (c : Cell) (s : State) : State :=
  if Config.fieldResponseIsMisplaced then misplace .field s else passage .field c s

/-- R122, R124: the handling of a cell by its kind and the port it arrived on. -/
def handleKind (p : Port) (c : Cell) (s : State) : State :=
  match c.kind, p with
  | .fill, _ => s
  | .cycle, .trunk => takeCycleCell c s
  | .cycle, .field => misplace .field s
  | .state, _ => passage p c (offerToTaps p c s)
  | .derived, _ => passage p c (offerToTaps p c s)
  | .notice, .trunk => misplace .trunk s
  | .notice, .field => passage .field c s
  | .request, .trunk => takeRequestCell c s
  | .request, .field => misplace .field s
  | .response, .trunk => misplace .trunk s
  | .response, .field => takeFieldResponse c s
  | .unknown, _ => s.onPort p.other (placeForward c)

/-- R120, R121: a cell with good check at an UP port. -/
def receiveGood (p : Port) (c : Cell) (s : State) : State :=
  let t := s.onPort p fun ps => { ps with badRun := 0 }
  if c.kind = .fill then t
  else
    let u := t.onPort p (countOn fun k => { k with received := k.received + 1 })
    if isClash u c then clash p u else handleKind p c u

/-- R116, R120: sixteen bytes arrive on a port. -/
def receiveCell (p : Port) (raw : RawCell) (s : State) : State :=
  match (s.port p).line with
  | .down => s.onPort p (acquire (goodCheck raw))
  | .up => if goodCheck raw then receiveGood p (Cell.ofRaw raw) s else receiveBad p s

/-! ### The arbiter (R129, R130) -/

/-- R130: whether the arbiter passes over the FORWARD queue at this pick. -/
def passesOver (ps : PortState) : Bool :=
  ps.forwardRun == 7 && (!ps.response.isEmpty || !ps.derived.isEmpty || !ps.notice.isEmpty)

/-- R129: what the arbiter picks after the cycle place and the FORWARD queue: RESPONSE, DERIVED, NOTICE,
else a FILL cell. -/
def pickOwn (station : Byte) (ps : PortState) : PortState :=
  match ps.response, ps.derived, ps.notice with
  | c :: rest, _, _ => { ps with response := rest, sending := some c, forwardRun := 0 }
  | [], c :: rest, _ => { ps with derived := rest, sending := some c, forwardRun := 0 }
  | [], [], c :: rest => { ps with notice := rest, sending := some c, forwardRun := 0 }
  | [], [], [] => { ps with sending := some (makeFillCell station), forwardRun := 0 }

/-- R129, R130: a pick of an UP port's arbiter. -/
def pickUp (station : Byte) (ps : PortState) : PortState :=
  match ps.cyclePlace with
  | some c => { ps with cyclePlace := none, sending := some c, forwardRun := 0 }
  | none =>
    match ps.forward with
    | [] => pickOwn station ps
    | c :: rest =>
      if passesOver ps then pickOwn station ps
      else { ps with forward := rest, sending := some c, forwardRun := min 7 (ps.forwardRun + 1) }

/-- R118, R129: a pick of a port's transmitter. A DOWN port sends FILL cells. -/
def pick (station : Byte) (ps : PortState) : PortState :=
  match ps.line with
  | .down => { ps with sending := some (makeFillCell station) }
  | .up => pickUp station ps

/-- R169: at the end of a transmission of the trunk port, the response of a pending RESET-PART that was
being sent has left the port. -/
def endTransmission (e : EngineState) : EngineState :=
  match e with
  | .running => .running
  | .resetPending scope .sending => .resetPending scope .gone
  | .resetPending scope .queued => .resetPending scope .queued
  | .resetPending scope .gone => .resetPending scope .gone

/-- R169: the response of a pending RESET-PART is the last in the RESPONSE queue, so it is the one picked
when a pick empties that queue. -/
def beginTransmission (before after : List Cell) (e : EngineState) : EngineState :=
  match e with
  | .running => .running
  | .resetPending scope .queued =>
    if !before.isEmpty && after.isEmpty then .resetPending scope .sending else .resetPending scope .queued
  | .resetPending scope .sending => .resetPending scope .sending
  | .resetPending scope .gone => .resetPending scope .gone

/-- R129: a port's transmitter finishes a cell and its arbiter picks the next. -/
def transmitterPick (p : Port) (s : State) : State :=
  match p with
  | .field => s.onPort .field (pick s.engine.station)
  | .trunk =>
    let t := s.onPort .trunk (pick s.engine.station)
    t.onEngineState fun e => beginTransmission s.trunk.response t.trunk.response (endTransmission e)

/-- SIGNAL_GAINED (R116). The receiver reports to the port while the reset line is held too. -/
def execSignalGained (p : Port) (s : State) : Host.Outcome State Fault Refusal := .next (s.onPort p gainSignal)

/-- SIGNAL_LOST (R116, R117). The receiver reports to the port while the reset line is held too. -/
def execSignalLost (p : Port) (s : State) : Host.Outcome State Fault Refusal := .next (loseSignal p s)

/-- CELL_RECEIVED (R116, R120). While the reset line is held the receiver discards the cell (R115). -/
def execCellReceived (p : Port) (raw : RawCell) (s : State) : Host.Outcome State Fault Refusal :=
  .next (unlessHeld s (receiveCell p raw s))

/-- TRANSMITTER_PICK (R129, R130). While the reset line is held the transmit pair carries no signal
(R115). -/
def execTransmitterPick (p : Port) (s : State) : Host.Outcome State Fault Refusal :=
  .next (unlessHeld s (transmitterPick p s))

end Sys2Proof.Machine
end

