-- ==== Sys2Proof/Machine/Banks.lean ====
section
/-! DEFINITION. The bank unit (chapter 8): validation, the cycle start, the swap, the ends of a session.
Its requests stand in Editing.lean. -/

namespace Sys2Proof.Machine

/-- The state with the bank unit changed. -/
def State.onBank (s : State) (f : BankUnit → BankUnit) : State := { s with bank := f s.bank }

/-! ### Validation (R146) -/

/-- R146, rules 1 and 2: the first rule a tap entry breaks. -/
def tapFault (station : Byte) (e : TapEntry) : Option Reason :=
  if e.enabled && e.station == station then some .ownStation
  else if e.enabled && e.stale != 0 && e.stale ≤ e.spacing then some .staleLimit
  else none

/-- R146, rule 5: whether a source count fits a function. -/
def countFits (fn : Combine) (count : Nat) : Bool :=
  count == 0 ||
    match fn with
    | .follow => count == 1
    | .vote => count == 3
    | .any => count ≤ 3
    | .all => count ≤ 3

/-- R146, rules 3 to 5: the first rule a bind entry breaks. -/
def bindFault (taps : Tab 192 TapEntry) (e : BindEntry) : Option Reason :=
  if e.sources.any fun t => !(taps.get t).enabled then some .sourceDisabled
  else if !decide e.sources.Nodup then some .duplicateSource
  else if !countFits e.fn e.sources.length then some .sourceCount
  else none

/-- Whether an enabled watch names a tap that is not enabled. -/
def subjectDisabled (taps : Tab 192 TapEntry) (e : WatchEntry) : Bool :=
  match e.subject with
  | .tap t => e.enabled && !(taps.get t).enabled
  | .point _ => false

/-- R146, rules 6 and 7: the first rule a watch entry breaks. -/
def watchFault (taps : Tab 192 TapEntry) (e : WatchEntry) : Option Reason :=
  if subjectDisabled taps e then some .subjectDisabled
  else if isLevel e.trigger && e.holdoff == 0 then some .levelHoldoff
  else none

/-- The first entry of a table that breaks a rule. -/
def firstFault (table : TableName) (n : Nat) (fault : Fin n → Option Reason) : Option FirstError :=
  (indices n).findSome? fun i => (fault i).map fun r => ⟨table, i.val, r⟩

/-- R146: the first error of a bank under a station number, if it breaks a rule. -/
def validate (station : Byte) (b : Bank) : Option FirstError :=
  (firstFault .tap 192 fun t => tapFault station (b.taps.get t)).or
    ((firstFault .bind 128 fun p => bindFault b.taps (b.binds.get p)).or
      (firstFault .watch 48 fun w => watchFault b.taps (b.watches.get w)))

/-! ### The ends of a session -/

/-- R135, R139, R152: a session ends without a swap. -/
def endSession (outcome : SessionOutcome) (b : BankUnit) : BankUnit :=
  { b with shadow := none, state := .idle, owner := none, lease := 0, leaseRemaining := 0, target := .none,
           targetPassed := false, lastOutcome := outcome, firstError := none }

/-- R147, R149: a commit fails and the session goes back to EDITING. -/
def backToEditing (outcome : SessionOutcome) (error : Option FirstError) (b : BankUnit) : BankUnit :=
  { b with state := .editing, target := .none, targetPassed := false, leaseRemaining := b.lease,
           lastOutcome := outcome, firstError := error }

/-- R150: the swap. -/
def swapped (shadow : Bank) (b : BankUnit) : BankUnit :=
  { endSession .committed b with active := shadow, generation := b.generation + 1 }

/-! ### A cycle start (R139, R148, R149) -/

/-- R148: whether a cycle start at a count has reached or passed a target. -/
def reached (target : Target) (count : Word16) : Bool :=
  match target with
  | .none => false
  | .next => false
  | .atCount a => a == count || isBefore a count

/-- R149: whether the cycle start that begins a count takes the swap. -/
def swapsAt (b : BankUnit) (count : Word16) : Bool :=
  b.state == .armed &&
    match b.target with
    | .none => false
    | .next => true
    | .atCount a => a == count

/-- R139, R148, R149: the bank unit at a cycle start that takes no swap. -/
def bankNoSwap (count : Word16) (b : BankUnit) : BankUnit :=
  match b.state with
  | .idle => b
  | .editing =>
    if b.leaseRemaining ≤ 1 then endSession .leaseExpired b else { b with leaseRemaining := b.leaseRemaining - 1 }
  | .validating => if reached b.target count then { b with targetPassed := true } else b
  | .armed => if reached b.target count then backToEditing .late none b else b

/-- R149, R150: the bank unit's work for one cycle start, and what it passes on to the other blocks. An
armed session has a shadow bank (R134); the swap makes it active. -/
def bankCycle (count : Word16) (rest : List Word16) (s : State) : State :=
  let b := { s.bank with inbox := rest }
  match swapsAt b count, b.shadow with
  | true, some shadow =>
    passCycleStart ⟨count, some ⟨shadow, b.generation + 1⟩⟩ { s with bank := swapped shadow b }
  | _, _ => passCycleStart ⟨count, none⟩ { s with bank := bankNoSwap count b }

/-- The bank unit takes the oldest cycle start waiting for it; with none waiting nothing happens. -/
def bankTakes (s : State) : State :=
  match s.bank.inbox with
  | [] => s
  | count :: rest => unlessHeld s (bankCycle count rest s)

/-- R147: a validation completion acts on the verdict. -/
def completeValidation (station : Byte) (b : BankUnit) : BankUnit :=
  match b.state, b.shadow with
  | .validating, some shadow =>
    match validate station shadow with
    | some e => backToEditing .rejected (some e) b
    | none => if b.targetPassed then backToEditing .late none b else { b with state := .armed }
  | _, _ => b

/-- BANK_CYCLE_START (R139, R148 to R150). -/
def execBankCycleStart (s : State) : Host.Outcome State Fault Refusal := .next (bankTakes s)

/-- LEASE_EXPIRY (R139): the taking of the cycle start that brings lease remaining to 0 in EDITING. Where
it is not at its end, the event does not come about and nothing changes (DEDUCED, log entry 5). -/
def execLeaseExpiry (s : State) : Host.Outcome State Fault Refusal :=
  .next (if s.bank.state = .editing ∧ s.bank.leaseRemaining ≤ 1 then bankTakes s else s)

/-- VALIDATION_COMPLETION (R147). A completion always finds the state VALIDATING (R145): in any other
state none comes and nothing changes. -/
def execValidationCompletion (s : State) : Host.Outcome State Fault Refusal :=
  .next (unlessHeld s (s.onBank (completeValidation s.engine.station)))

end Sys2Proof.Machine
end

