-- ==== Sys2Proof/Machine/Requests.lean ====
section
/-! DEFINITION. Taking a request (chapters 9.2 and 9.3): when the engine takes the head record, the lease
reload, and the response. Every request command is one line over `takeIf`. -/

namespace Sys2Proof.Machine

/-- The result and the data bytes an owning rule gives. -/
structure Answer where
  result : Result
  data   : List Byte
deriving DecidableEq, Repr

/-- R160: whether the engine can take a request: it is RUNNING, and the trunk RESPONSE queue has a free
place. -/
def canTake (s : State) : Bool :=
  !s.resetLine && s.engine.state == .running && decide (s.trunk.response.length < Config.responseCapacity)

/-- R160: the record the engine takes now, if it can take one: the head of the request queue. That the taking is
a command of its own is DEDUCED (log entry 19). -/
def taken (s : State) : Option Request := if canTake s then s.engine.queue.head? else none

/-- R138: in EDITING, a request taken from the owner reloads lease remaining. -/
def reloadLease (o : Originator) (b : BankUnit) : BankUnit :=
  if b.state == .editing && b.owner == some o then { b with leaseRemaining := b.lease } else b

/-- R160, R161: the state in which a taken request is executed: its record has left the request queue and
its originator has been handed to the bank unit. -/
def dequeued (r : Request) (s : State) : State :=
  { s with engine := { s.engine with queue := s.engine.queue.tail }, bank := reloadLease r.originator s.bank }

/-- R162: the response of a taken request is made and placed in the trunk RESPONSE queue. -/
def respond (r : Request) (a : Answer) (s : State) : State :=
  { s with trunk := placeResponse (makeResponseCell s.engine.station r a.result a.data) s.trunk }

/-- The taking of a request whose operation code is one of interest, executed by a rule that gives the
state after it and the answer. Where the engine cannot take a request now, or the head record is not
such a request, the event does not come about and nothing changes (DEDUCED, log entry 5). -/
def takeIf (wanted : Byte → Bool) (run : Request → State → State × Answer) (s : State) : State :=
  match taken s with
  | none => s
  | some r =>
    if wanted r.operation then
      let (t, a) := run r (dequeued r s)
      respond r a t
    else s

/-- Whether an operation code names an operation. -/
def names (op : Operation) (code : Byte) : Bool := Operation.ofCode code == some op

/-- An answer with a result and no data. -/
def refusal (result : Result) : Answer := ⟨result, []⟩

/-- R175: the RANGE answer of a request whose refusal carries no data. -/
def outOfRange : Answer := refusal .range

end Sys2Proof.Machine
end

