-- ==== Sys2Proof/Machine/Editing.lean ====
section
/-! DEFINITION. The requests of the bank unit (chapter 8): OPEN-EDIT, the five writes, READ-ENTRY, COMMIT,
ABORT-EDIT, READ-BANK-STATUS. -/

namespace Sys2Proof.Machine

/-- The bank state as a data byte. -/
def bankStateByte (b : BankUnit) : Byte := (bankStateCode b.state).setWidth 8

/-- R176: the data of a refusal of a session request: the bank state and the owner. -/
def sessionData (b : BankUnit) : List Byte := [bankStateByte b, ownerByte b.owner]

/-- R176: a refusal of a session request. -/
def refuseSession (result : Result) (b : BankUnit) : Answer := ⟨result, sessionData b⟩

/-! ### OPEN-EDIT (R137) -/

/-- R137: the session an OPEN-EDIT opens: the shadow is a copy of the active bank. -/
def openSession (o : Originator) (lease : Nat) (b : BankUnit) : BankUnit :=
  { b with shadow := some b.active, state := .editing, owner := some o, lease := lease, leaseRemaining := lease,
           target := .none }

/-- R137: the data of an OPEN-EDIT that is carried out. -/
def openData (b : BankUnit) : List Byte :=
  [bankStateByte b, ownerByte b.owner, countByte b.lease, highByte b.generation, lowByte b.generation]

/-- R137: an OPEN-EDIT with a lease is carried out. -/
def openWith (f : BankUnit → BankUnit) (s : State) : State × Answer :=
  (s.onBank f, ⟨.ok, openData (f s.bank)⟩)

/-- R136, R137: OPEN-EDIT. -/
def runOpenEdit (r : Request) (s : State) : State × Answer :=
  let lease := (r.arg 0).toNat
  match s.bank.state with
  | .idle =>
    if lease = 0 then (s, refuseSession .range s.bank) else openWith (openSession r.originator lease) s
  | .editing =>
    if s.bank.owner = some r.originator then
      if lease = 0 then (s, refuseSession .range s.bank)
      else openWith (fun b => { b with lease := lease, leaseRemaining := lease }) s
    else (s, refuseSession .locked s.bank)
  | .validating => (s, refuseSession .busy s.bank)
  | .armed => (s, refuseSession .busy s.bank)

/-! ### The writes (R140 to R142) -/

/-- R136: the tests of a write and of COMMIT before their arguments: the first result that applies, if one
does. -/
def sessionTest (o : Originator) (b : BankUnit) : Option Result :=
  match b.state with
  | .idle => some .noSession
  | .validating => some .busy
  | .armed => some .busy
  | .editing => if b.owner = some o then none else some .locked

/-- R140: the state with the shadow bank changed. -/
def writeShadow (f : Bank → Bank) (s : State) : State := s.onBank fun b => { b with shadow := b.shadow.map f }

/-- R140: the data of an accepted write. -/
def writeData (table : TableName) (index count : Nat) (b : BankUnit) : List Byte :=
  [tableCode table, countByte index, countByte count, countByte b.leaseRemaining]

/-- R176: a refusal of a write for its arguments, naming an argument byte. -/
def refuseWrite (result : Result) (argByte : Nat) (b : BankUnit) : Answer :=
  ⟨result, sessionData b ++ [countByte argByte]⟩

/-- R136, R140: a write: tested for its session, then for its arguments, and then taken whole. -/
def runWrite {ι ε : Type} (table : TableName) (args : WriteArgs ι ε) (index count : ι → Nat) (put : ι → ε → Bank → Bank)
    (o : Originator) (s : State) : State × Answer :=
  match sessionTest o s.bank, args with
  | some result, _ => (s, refuseSession result s.bank)
  | none, .range k => (s, refuseWrite .range k s.bank)
  | none, .invalid k => (s, refuseWrite .invalid k s.bank)
  | none, .entry i e => (writeShadow (put i e) s, ⟨.ok, writeData table (index i) (count i) s.bank⟩)

/-- R140: a bank with one tap entry written. -/
def putTap (t : TapNo) (e : TapEntry) (b : Bank) : Bank := { b with taps := b.taps.set t e }

/-- R140: a bank with one bind entry written. -/
def putBind (p : PointNo) (e : BindEntry) (b : Bank) : Bank := { b with binds := b.binds.set p e }

/-- R140: a bank with one watch entry written. -/
def putWatch (w : WatchNo) (e : WatchEntry) (b : Bank) : Bank := { b with watches := b.watches.set w e }

/-- R140: a bank with one publish record written. -/
def putPublish (g : GroupNo) (e : PublishRecord) (b : Bank) : Bank := { b with publish := b.publish.set g e }

/-- R142: the policy a run's bits give the station at a place of the run: 1 is BLOCK. -/
def runPolicy (bits : Word16 × Word16) (k : Nat) : PolicyEntry := ⟨bits.1.getLsbD k, bits.2.getLsbD k⟩

/-- R142: a bank with a run of policy entries written. -/
def putPolicy (run : PolicyRun) (bits : Word16 × Word16) (b : Bank) : Bank :=
  { b with policy := Tab.ofFn fun st =>
      if run.first ≤ st.val ∧ st.val < run.first + run.count then runPolicy bits (st.val - run.first)
      else b.policy.get st }

/-! ### READ-ENTRY (R143) -/

/-- R143: the data of an entry, if the index lies in its table's range. -/
def entryData (b : Bank) (table : TableName) (index : Nat) : Option (List Byte) :=
  match table with
  | .tap => if h : index < 192 then some (tapEntryData (b.taps.get ⟨index, h⟩)) else none
  | .bind => if h : index < 128 then some (bindEntryData (b.binds.get ⟨index, h⟩)) else none
  | .watch => if h : index < 48 then some (watchEntryData (b.watches.get ⟨index, h⟩)) else none
  | .publish => if h : index < 4 then some (publishRecordData (b.publish.get ⟨index, h⟩)) else none
  | .policy => if h : index < 255 then some (policyEntryData (b.policy.get ⟨index, h⟩)) else none

/-- R143: the answer of a read of an entry of a bank. -/
def answerEntry (b : BankUnit) (bank : Bank) (table : TableName) (index : Nat) : Answer :=
  match entryData bank table index with
  | some d => ⟨.ok, d⟩
  | none => refuseSession .range b

/-- R143: a SHADOW read; in IDLE there is no shadow bank. -/
def answerShadow (b : BankUnit) (table : TableName) (index : Nat) : Answer :=
  match b.shadow with
  | none => refuseSession .noSession b
  | some shadow => answerEntry b shadow table index

/-- R143: READ-ENTRY. -/
def runReadEntry (r : Request) (s : State) : State × Answer :=
  match tableOf (r.arg 0), (r.arg 1).toNat with
  | some table, 0 => (s, answerEntry s.bank s.bank.active table (r.arg 2).toNat)
  | some table, 1 => (s, answerShadow s.bank table (r.arg 2).toNat)
  | _, _ => (s, refuseSession .range s.bank)

/-! ### COMMIT (R144) -/

/-- R175: the target a COMMIT's arguments name, if its target kind is NEXT or AT. -/
def commitTarget (r : Request) : Option Target :=
  match (r.arg 0).toNat with
  | 1 => some .next
  | 2 => some (.atCount (r.arg16 1))
  | _ => none

/-- R144: whether a target has already passed: it is at or before the current count. -/
def tooLate (target : Target) (count : Word16) : Bool := reached target count

/-- R144: the bank unit with a commit accepted. -/
def beginValidation (target : Target) (b : BankUnit) : BankUnit :=
  { b with state := .validating, target := target, targetPassed := false }

/-- A count as two data bytes, most significant first. -/
def countData (w : Word16) : List Byte := [highByte w, lowByte w]

/-- R144: the data of an accepted COMMIT. -/
def commitData (target : Target) (count : Word16) (b : BankUnit) : List Byte :=
  [bankStateByte b, (targetCode target).setWidth 8] ++ countData (targetCount target) ++ countData count

/-- R136, R144: COMMIT. -/
def runCommit (r : Request) (s : State) : State × Answer :=
  match sessionTest r.originator s.bank, commitTarget r with
  | some result, _ => (s, refuseSession result s.bank)
  | none, none => (s, refuseSession .range s.bank)
  | none, some target =>
    if tooLate target s.cycle.count then (s, ⟨.tooLate, sessionData s.bank ++ countData s.cycle.count⟩)
    else (s.onBank (beginValidation target), ⟨.ok, commitData target s.cycle.count (beginValidation target s.bank)⟩)

/-! ### ABORT-EDIT (R152) and READ-BANK-STATUS (R154) -/

/-- R152: ABORT-EDIT. -/
def runAbortEdit (r : Request) (s : State) : State × Answer :=
  if s.bank.state = .idle then (s, refuseSession .noSession s.bank)
  else if s.bank.owner = some r.originator then (s.onBank (endSession .aborted), ⟨.ok, [bankStateByte s.bank]⟩)
  else (s, refuseSession .locked s.bank)

/-- R154: the SESSION view. -/
def sessionView (b : BankUnit) : List Byte :=
  [bit b.targetPassed ++ (0 : BitVec 1) ++ targetCode b.target ++ (0 : BitVec 2) ++ bankStateCode b.state,
    ownerByte b.owner, countByte b.lease, countByte b.leaseRemaining] ++ countData (targetCount b.target)

/-- R154: the first error as three data bytes, 0 when there is none. -/
def firstErrorData : Option FirstError → List Byte
  | none => [0, 0, 0]
  | some e => [tableCode e.table, countByte e.index, reasonCode e.reason]

/-- R154: the OUTCOME view. -/
def outcomeView (b : BankUnit) : List Byte :=
  countData b.generation ++ [outcomeCode b.lastOutcome] ++ firstErrorData b.firstError

/-- R154: READ-BANK-STATUS. -/
def runReadBankStatus (r : Request) (s : State) : State × Answer :=
  match (r.arg 0).toNat with
  | 0 => (s, ⟨.ok, sessionView s.bank⟩)
  | 1 => (s, ⟨.ok, outcomeView s.bank⟩)
  | _ => (s, outOfRange)

/-! ### The commands -/

/-- OPEN_EDIT (R137). -/
def execOpenEdit (s : State) : Host.Outcome State Fault Refusal := .next (takeIf (names .openEdit) runOpenEdit s)

/-- WRITE_TAP (R140, R141). -/
def execWriteTap (s : State) : Host.Outcome State Fault Refusal :=
  .next (takeIf (names .writeTap)
    (fun r => runWrite .tap (writeTapArgs r) (·.val) (fun _ => 1) putTap r.originator) s)

/-- WRITE_BIND (R140, R141). -/
def execWriteBind (s : State) : Host.Outcome State Fault Refusal :=
  .next (takeIf (names .writeBind)
    (fun r => runWrite .bind (writeBindArgs r) (·.val) (fun _ => 1) putBind r.originator) s)

/-- WRITE_WATCH (R140, R141). -/
def execWriteWatch (s : State) : Host.Outcome State Fault Refusal :=
  .next (takeIf (names .writeWatch)
    (fun r => runWrite .watch (writeWatchArgs r) (·.val) (fun _ => 1) putWatch r.originator) s)

/-- WRITE_PUBLISH (R140, R141). -/
def execWritePublish (s : State) : Host.Outcome State Fault Refusal :=
  .next (takeIf (names .writePublish)
    (fun r => runWrite .publish (writePublishArgs r) (·.val) (fun _ => 1) putPublish r.originator) s)

/-- WRITE_POLICY (R140, R142). -/
def execWritePolicy (s : State) : Host.Outcome State Fault Refusal :=
  .next (takeIf (names .writePolicy)
    (fun r => runWrite .policy (writePolicyArgs r) (·.first) (·.count) putPolicy r.originator) s)

/-- READ_ENTRY (R143). -/
def execReadEntry (s : State) : Host.Outcome State Fault Refusal := .next (takeIf (names .readEntry) runReadEntry s)

/-- COMMIT (R144). -/
def execCommit (s : State) : Host.Outcome State Fault Refusal := .next (takeIf (names .commit) runCommit s)

/-- ABORT_EDIT (R152). -/
def execAbortEdit (s : State) : Host.Outcome State Fault Refusal := .next (takeIf (names .abortEdit) runAbortEdit s)

/-- READ_BANK_STATUS (R154). -/
def execReadBankStatus (s : State) : Host.Outcome State Fault Refusal :=
  .next (takeIf (names .readBankStatus) runReadBankStatus s)

end Sys2Proof.Machine
end

