-- ==== Sys2Proof/Machine/Management.lean ====
section
/-! DEFINITION. The engine's own operations (chapter 9.4) and the requests it hands to the tap unit, the
cross-connect, the notice unit and cycle timing. -/

namespace Sys2Proof.Machine

/-! ### ECHO, READ-STATUS, READ-COUNTER, CLEAR-INDICATORS, RESET-PART -/

/-- R164: ECHO. -/
def runEcho (r : Request) (s : State) : State × Answer :=
  (s, ⟨.ok, [s.engine.station, r.arg 0, r.arg 1, r.arg 2, r.arg 3, r.arg 4]⟩)

/-- R165: the PART page. -/
def partPage (s : State) : List Byte :=
  [s.engine.station, (0 : BitVec 2) ++ bankStateCode s.bank.state ++ (0 : BitVec 2) ++ cycleStateCode s.cycle.state]
    ++ countData s.cycle.count ++ countData s.bank.generation

/-- The indicators as the 16-bit mask of chapter 10.4. -/
def indicatorMask (i : Indicators) : Word16 := i.setWidth 16

/-- R165: the EVENTS page. -/
def eventsPage (s : State) : List Byte :=
  countData (indicatorMask s.engine.indicators) ++
    [causeCode s.engine.resetCause, (0 : BitVec 6) ++ bit (s.field.line == .up) ++ bit (s.trunk.line == .up)]

/-- A port's FORWARD fill level in bits 4..0 and its cycle place in bit 7. -/
def forwardFill (ps : PortState) : Byte :=
  bit ps.cyclePlace.isSome ++ (0 : BitVec 2) ++ BitVec.ofNat 5 ps.forward.length

/-- R165: the QUEUES page. -/
def queuesPage (s : State) : List Byte :=
  [forwardFill s.trunk, BitVec.ofNat 4 s.trunk.notice.length ++ BitVec.ofNat 4 s.trunk.derived.length,
    (0 : BitVec 1) ++ BitVec.ofNat 3 s.engine.queue.length ++ (0 : BitVec 1) ++ BitVec.ofNat 3 s.trunk.response.length,
    forwardFill s.field, countByte s.field.derived.length]

/-- The number of queued notices of a class. -/
def queuedOfClass (s : State) (c : ClassNo) : Nat := (s.notice.queue.filter fun n => n.cls == c).length

/-- R165: the NOTICES page. -/
def noticesPage (s : State) : List Byte :=
  [countByte (queuedOfClass s 0), countByte (queuedOfClass s 1), countByte (queuedOfClass s 2),
    countByte (queuedOfClass s 3), countByte s.delivery.inFlight.length, s.delivery.sequence]

/-- R165: READ-STATUS. -/
def runReadStatus (r : Request) (s : State) : State × Answer :=
  match (r.arg 0).toNat with
  | 0 => (s, ⟨.ok, partPage s⟩)
  | 1 => (s, ⟨.ok, eventsPage s⟩)
  | 2 => (s, ⟨.ok, queuesPage s⟩)
  | 3 => (s, ⟨.ok, noticesPage s⟩)
  | _ => (s, outOfRange)

/-- R131, chapter 10.7: the counter of a port at a place of the numbering. -/
def portCounter (c : PortCounters) (k : Nat) : Option Word32 :=
  match k with
  | 0 => some c.received
  | 1 => some c.checkErrors
  | 2 => some c.lateCells
  | 3 => some c.misplaced
  | 4 => some c.clashes
  | 5 => some c.blocked
  | 6 => some c.forwardDrops
  | 7 => some c.derivedDrops
  | 8 => some c.discardedDown
  | 9 => some c.placeReplaced
  | _ => none

/-- R177: the counter of another block at a place of the numbering from 32 on. -/
def blockCounter (s : State) (k : Nat) : Option Word32 :=
  match k with
  | 0 => some s.notice.raised
  | 1 => some s.notice.acknowledged
  | 2 => some s.notice.lost
  | 3 => some s.notice.withdrawn
  | 4 => some s.notice.absorbedTotal
  | 8 => some s.cycle.skewCount
  | 9 => some s.cycle.conflictCount
  | 16 => some s.engine.requestDrops
  | _ => none

/-- R177: the value of a numbered counter, if the numbering gives one: the trunk port's from 0 on, the field
port's from 16 on, the other blocks' from 32 on. -/
def counterValue (s : State) (k : Nat) : Option Word32 :=
  if k < 16 then portCounter s.trunk.counters k
  else if k < 32 then portCounter s.field.counters (k - 16)
  else blockCounter s (k - 32)

/-- A counter as four data bytes, most significant first. -/
def counterData (w : Word32) : List Byte :=
  [w.extractLsb' 24 8, w.extractLsb' 16 8, w.extractLsb' 8 8, w.extractLsb' 0 8]

/-- R166, R177: READ-COUNTER. -/
def runReadCounter (r : Request) (s : State) : State × Answer :=
  match counterValue s (r.arg 0).toNat with
  | some w => (s, ⟨.ok, r.arg 0 :: counterData w⟩)
  | none => (s, outOfRange)

/-- R167: CLEAR-INDICATORS. A mask that names anything but the nine indicators is out of range. -/
def runClearIndicators (r : Request) (s : State) : State × Answer :=
  if (r.arg16 0).toNat < 512 then
    let before := s.engine.indicators
    let after := clearNamed before ((r.arg16 0).setWidth 9)
    ({ s with engine := { s.engine with indicators := after } },
      ⟨.ok, countData (indicatorMask before) ++ countData (indicatorMask after)⟩)
  else (s, outOfRange)

/-- R168: the scope an argument byte names, if it names one. -/
def scopeOf (b : Byte) : Option Scope :=
  match b.toNat with
  | 0 => some .runtime
  | 1 => some .full
  | _ => none

/-- R119, R168, R169: where the response of a RESET-PART stands after its placing: waiting, or discarded
at a DOWN trunk port. -/
def stageAtPlacing (ps : PortState) : ResponseStage :=
  match ps.line with
  | .up => .queued
  | .down => .gone

/-- R168: RESET-PART: the engine becomes RESET-PENDING. The response is placed by `respond`. -/
def runResetPart (r : Request) (s : State) : State × Answer :=
  match scopeOf (r.arg 0) with
  | none => (s, outOfRange)
  | some scope =>
    (s.onEngineState fun _ => .resetPending scope (stageAtPlacing s.trunk), ⟨.ok, [r.arg 0]⟩)

/-! ### SET-CYCLE (R111) -/

/-- R111: the cycle state a mode byte names, if it names FOLLOW or ORIGINATE. -/
def modeOf (b : Byte) : Option CycleState :=
  match b.toNat with
  | 0 => some .following
  | 1 => some .originating
  | _ => none

/-- R111: cycle timing after an accepted SET-CYCLE. -/
def configured (mode : CycleState) (d t w : Nat) (c : CycleTiming) : CycleTiming :=
  reloadTimer { c with state := mode, divide := d, period := t, watchLimit := w, missed := 0 }

/-- R111: SET-CYCLE. -/
def runSetCycle (r : Request) (s : State) : State × Answer :=
  match modeOf (r.arg 0) with
  | none => (s, outOfRange)
  | some mode =>
    if (r.arg16 2).toNat = 0 ∨ 15 < (r.arg 4).toNat then (s, outOfRange)
    else
      (s.onCycle (configured mode (r.arg 1).toNat (r.arg16 2).toNat (r.arg 4).toNat),
        ⟨.ok, [(cycleStateCode mode).setWidth 8] ++ countData s.cycle.count ++ [countByte s.cycle.missed]⟩)

/-! ### READ-TAP-STATE (R23) -/

/-- R23: the STATE view. -/
def tapStateView (e : TapEntry) (r : TapRecord) : List Byte :=
  [(0 : BitVec 1) ++ conditionCode (.tap r.cond) ++ bit r.candidate ++ bit r.qualified ++ bit (e.side == .trunk)
      ++ bit e.enabled, countByte r.run, countByte r.spacing, countByte r.age]

/-- R23: the COUNTS view. -/
def tapCountsView (r : TapRecord) : List Byte :=
  [(0 : BitVec 1) ++ conditionCode (.tap r.cond) ++ (0 : BitVec 1) ++ bit r.qualified ++ (0 : BitVec 2)]
    ++ countData r.changes ++ countData r.untrusted

/-- R23: READ-TAP-STATE. The entries read are those the tap unit works by (DEDUCED, log entry 12). -/
def runReadTapState (r : Request) (s : State) : State × Answer :=
  match tapNo? (r.arg 0), (r.arg 1).toNat with
  | some t, 0 => (s, ⟨.ok, tapStateView (s.tap.entries.get t) (s.tap.records.get t)⟩)
  | some t, 1 => (s, ⟨.ok, tapCountsView (s.tap.records.get t)⟩)
  | _, _ => (s, outOfRange)

/-! ### READ-POINT-STATE, FORCE-POINT, RELEASE-POINT (R47, R41, R42) -/

/-- R47: the STATE view. -/
def pointStateView (f : Option ForceRecord) (r : PointRecord) : List Byte :=
  [bit f.isSome ++ conditionCode (.point r.cond) ++ bit r.quality ++ bit r.published ++ bit r.lastGood ++ bit r.combined,
    countByte r.hold] ++ countData r.changes

/-- R47, R176: a duration in a response: 0 for absent. -/
def durationData (d : Option Nat) : List Byte := countData (BitVec.ofNat 16 (d.getD 0))

/-- R47: the FORCE view. -/
def pointForceView (s : State) (f : Option ForceRecord) : List Byte :=
  match f with
  | none => [0, ownerByte none, 0, 0, countByte (freeForces s)]
  | some x =>
    [(0 : BitVec 6) ++ bit x.value ++ bit true, ownerByte (some x.owner)] ++ durationData x.remaining
      ++ [countByte (freeForces s)]

/-- R47: READ-POINT-STATE. -/
def runReadPointState (r : Request) (s : State) : State × Answer :=
  match pointNo? (r.arg 0), (r.arg 1).toNat with
  | some p, 0 => (s, ⟨.ok, pointStateView (s.xc.forces.get p) (s.xc.records.get p)⟩)
  | some p, 1 => (s, ⟨.ok, pointForceView s (s.xc.forces.get p)⟩)
  | _, _ => (s, outOfRange)

/-- R176: the HELD answer: data byte 2 is the owner of the existing record. -/
def heldBy (owner : Originator) : Answer := ⟨.held, [0, 0, originatorByte owner]⟩

/-- R41: the duration a FORCE-POINT asks for: 0 means absent. -/
def durationOf (w : Word16) : Option Nat := if w = 0 then none else some w.toNat

/-- R41: a force record is created or replaced, and the answer carries the mark and the free records. -/
def forceWith (mark : Byte) (p : PointNo) (f : ForceRecord) (s : State) : State × Answer :=
  (setForce p (some f) s, ⟨.ok, [mark, countByte (freeForces (setForce p (some f) s))]⟩)

/-- R41: FORCE-POINT. -/
def runForcePoint (r : Request) (s : State) : State × Answer :=
  match pointNo? (r.arg 0) with
  | none => (s, outOfRange)
  | some p =>
    if 1 < (r.arg 1).toNat then (s, outOfRange)
    else
      let f : ForceRecord := ⟨(r.arg 1).getLsbD 0, r.originator, durationOf (r.arg16 2)⟩
      match s.xc.forces.get p with
      | none =>
        if forceCount s < Config.forceCapacity then forceWith 1 p f s
        else (s, ⟨.full, [0, countByte (freeForces s)]⟩)
      | some x => if x.owner = r.originator then forceWith 2 p f s else (s, heldBy x.owner)

/-- R42: RELEASE-POINT. -/
def runReleasePoint (r : Request) (s : State) : State × Answer :=
  match pointNo? (r.arg 0) with
  | none => (s, outOfRange)
  | some p =>
    match s.xc.forces.get p with
    | none => (s, ⟨.ok, [4, countByte (freeForces s)]⟩)
    | some x =>
      if x.owner = r.originator then
        (setForce p none s, ⟨.ok, [3, countByte (freeForces (setForce p none s))]⟩)
      else (s, heldBy x.owner)

/-! ### READ-WATCH-STATE, GATE (R71, R72, R64) -/

/-- The watch a byte names, if it names one. -/
def watchNo? (b : Byte) : Option WatchNo := if h : b.toNat < 48 then some ⟨b.toNat, h⟩ else none

/-- The number of records in flight whose notice names a watch. -/
def inFlightFor (s : State) (w : WatchNo) : Nat := (s.delivery.inFlight.filter fun f => f.notice.watch == w).length

/-- R71: the place of a watch's notice in the queue and its occurrence count; FFh and 0 when none. -/
def queuePlace (s : State) (w : WatchNo) : List Byte :=
  match s.notice.queue.find? fun n => n.watch == w with
  | none => [0xFF, 0]
  | some n => [countByte (s.notice.queue.findIdx fun m => m.watch == w), countByte n.count]

/-- R71: the WATCH view. -/
def watchView (s : State) (w : WatchNo) : List Byte :=
  let r := s.notice.records.get w
  [BitVec.ofNat 4 (inFlightFor s w) ++ (0 : BitVec 2) ++ bit r.queued ++ bit (s.notice.entries.get w).enabled,
    countByte r.holdoff] ++ countData r.absorbed ++ queuePlace s w

/-- R72: the number of notices in the queue, with the mark that the position is empty. -/
def queueFill (s : State) (empty : Bool) : Byte :=
  bit empty ++ (0 : BitVec 2) ++ BitVec.ofNat 5 s.notice.queue.length

/-- R72: the QUEUE view. -/
def queueView (s : State) (k : Nat) : List Byte :=
  match s.notice.queue[k]? with
  | none => [queueFill s true]
  | some n => [queueFill s false, countByte n.watch.val, classTriggerByte n, countByte n.count] ++ countData n.first

/-- R71, R72: READ-WATCH-STATE. The entries read are those the notice unit works by (DEDUCED, log entry 12). -/
def runReadWatchState (r : Request) (s : State) : State × Answer :=
  match (r.arg 0).toNat with
  | 0 =>
    match watchNo? (r.arg 1) with
    | none => (s, outOfRange)
    | some w => (s, ⟨.ok, watchView s w⟩)
  | 1 => if (r.arg 1).toNat < 24 then (s, ⟨.ok, queueView s (r.arg 1).toNat⟩) else (s, outOfRange)
  | _ => (s, outOfRange)

/-- R64: a gate after a GATE with these masks. -/
def gateAfter (openMask closeMask : Byte) (c : ClassNo) (was : Bool) : Bool :=
  if openMask.getLsbD c.val then true else if closeMask.getLsbD c.val then false else was

/-- The class mask of the OPEN gates. -/
def openGates (g : Tab 4 Bool) : Byte := (0 : BitVec 4) ++ bit (g.get 3) ++ bit (g.get 2) ++ bit (g.get 1) ++ bit (g.get 0)

/-- R64: GATE. -/
def runGate (r : Request) (s : State) : State × Answer :=
  if 16 ≤ (r.arg 0).toNat ∨ 16 ≤ (r.arg 1).toNat then (s, outOfRange)
  else
    let g := Tab.ofFn fun c => gateAfter (r.arg 0) (r.arg 1) c (s.notice.gates.get c)
    ({ s with notice := { s.notice with gates := g } }, ⟨.ok, [openGates g]⟩)

/-! ### ACK-NOTICE, SET-DELIVERY (R83, R74) -/

/-- R83: one sequence number of an ACK-NOTICE: whether its record was found, and the state after. -/
def ackOne (seq : Byte) (s : State) : Bool × State :=
  if s.delivery.inFlight.any fun f => f.sequence == seq then
    (true, { s with delivery := { s.delivery with inFlight := s.delivery.inFlight.eraseP fun f => f.sequence == seq },
                    notice := { s.notice with acknowledged := s.notice.acknowledged + 1 } })
  else (false, s)

/-- R83: the sequence numbers taken one after another in list order, from a list position on: the
found-mask and the state after. -/
def ackAll : List Byte → Nat → State → Byte × State
  | [], _, s => (0, s)
  | seq :: rest, k, s =>
    let (found, t) := ackOne seq s
    let (mask, u) := ackAll rest (k + 1) t
    ((if found then mask ||| (1 <<< k) else mask), u)

/-- R83: the list of an ACK-NOTICE. -/
def ackList (r : Request) : List Byte :=
  [r.arg 1, r.arg 2, r.arg 3, r.arg 4, r.arg 5, r.arg 6].take (r.arg 0).toNat

/-- R83: ACK-NOTICE. -/
def runAckNotice (r : Request) (s : State) : State × Answer :=
  if (r.arg 0).toNat = 0 ∨ 6 < (r.arg 0).toNat then (s, outOfRange)
  else
    let (mask, t) := ackAll (ackList r) 0 s
    (t, ⟨.ok, [mask, countByte t.delivery.inFlight.length]⟩)

/-- R74: whether the arguments of a SET-DELIVERY lie in their ranges. -/
def deliveryArgsOk (r : Request) : Bool :=
  1 ≤ (r.arg 0).toNat && (r.arg 0).toNat ≤ 4 && 1 ≤ (r.arg 1).toNat && (r.arg 2).toNat ≤ 7

/-- R74: SET-DELIVERY. -/
def runSetDelivery (r : Request) (s : State) : State × Answer :=
  if deliveryArgsOk r then
    ({ s with delivery := { s.delivery with
        budget := (r.arg 0).toNat, retryInterval := (r.arg 1).toNat, attempts := (r.arg 2).toNat } },
      ⟨.ok, [r.arg 0, r.arg 1, r.arg 2, countByte s.delivery.inFlight.length]⟩)
  else (s, outOfRange)

/-! ### The commands -/

/-- UNKNOWN_OP (R161): a request with an operation the part does not recognise is answered. -/
def execUnknownOp (s : State) : Host.Outcome State Fault Refusal :=
  .next (takeIf (fun b => (Operation.ofCode b).isNone) (fun _ t => (t, refusal .unknownOp)) s)

/-- ECHO (R164). -/
def execEcho (s : State) : Host.Outcome State Fault Refusal := .next (takeIf (names .echo) runEcho s)

/-- READ_STATUS (R165). -/
def execReadStatus (s : State) : Host.Outcome State Fault Refusal := .next (takeIf (names .readStatus) runReadStatus s)

/-- READ_COUNTER (R166, R177). -/
def execReadCounter (s : State) : Host.Outcome State Fault Refusal :=
  .next (takeIf (names .readCounter) runReadCounter s)

/-- CLEAR_INDICATORS (R167). -/
def execClearIndicators (s : State) : Host.Outcome State Fault Refusal :=
  .next (takeIf (names .clearIndicators) runClearIndicators s)

/-- RESET_PART (R168). -/
def execResetPart (s : State) : Host.Outcome State Fault Refusal := .next (takeIf (names .resetPart) runResetPart s)

/-- SET_CYCLE (R111). -/
def execSetCycle (s : State) : Host.Outcome State Fault Refusal := .next (takeIf (names .setCycle) runSetCycle s)

/-- READ_TAP_STATE (R23). -/
def execReadTapState (s : State) : Host.Outcome State Fault Refusal :=
  .next (takeIf (names .readTapState) runReadTapState s)

/-- READ_POINT_STATE (R47). -/
def execReadPointState (s : State) : Host.Outcome State Fault Refusal :=
  .next (takeIf (names .readPointState) runReadPointState s)

/-- FORCE_POINT (R41). -/
def execForcePoint (s : State) : Host.Outcome State Fault Refusal := .next (takeIf (names .forcePoint) runForcePoint s)

/-- RELEASE_POINT (R42). -/
def execReleasePoint (s : State) : Host.Outcome State Fault Refusal :=
  .next (takeIf (names .releasePoint) runReleasePoint s)

/-- READ_WATCH_STATE (R71, R72). -/
def execReadWatchState (s : State) : Host.Outcome State Fault Refusal :=
  .next (takeIf (names .readWatchState) runReadWatchState s)

/-- GATE (R64). -/
def execGate (s : State) : Host.Outcome State Fault Refusal := .next (takeIf (names .gate) runGate s)

/-- ACK_NOTICE (R83). -/
def execAckNotice (s : State) : Host.Outcome State Fault Refusal := .next (takeIf (names .ackNotice) runAckNotice s)

/-- SET_DELIVERY (R74). -/
def execSetDelivery (s : State) : Host.Outcome State Fault Refusal :=
  .next (takeIf (names .setDelivery) runSetDelivery s)

end Sys2Proof.Machine
end

