-- ==== Sys2Proof/Machine/Resets.lean ====
section
/-! DEFINITION. The resets: what each block becomes at power-on, at release of the reset line, at a FULL
reset and at a RUNTIME reset, and what the held reset line does. -/

namespace Sys2Proof.Machine

/-- Whether a reset keeps the active bank and the configuration held outside the banks: a RUNTIME reset
does. -/
def keepsTables : ResetCause → Bool
  | .powerOn => false
  | .resetLine => false
  | .full => false
  | .runtime => true

/-! ### The bank unit and the blocks that work by its active bank -/

/-- R156: the bank unit after a reset. Cycle starts on their way are dropped (DESIGN CHOICE, log entry 7). -/
def resetBank (k : ResetCause) (b : BankUnit) : BankUnit where
  active         := if keepsTables k then b.active else emptyBank
  shadow         := none
  state          := .idle
  owner          := none
  lease          := 0
  leaseRemaining := 0
  target         := .none
  targetPassed   := false
  generation     := if keepsTables k then b.generation else 0
  lastOutcome    := if keepsTables k then b.lastOutcome else .none
  firstError     := if keepsTables k then b.firstError else none
  inbox          := []

/-- R3, R4: the tap unit after a reset that leaves a bank active. -/
def resetTapUnit (active : Bank) : TapUnit where
  entries := active.taps
  records := Tab.ofFn fun t => initialTap (active.taps.get t)
  inbox   := []

/-- R34, R40: the cross-connect after a reset: no forces, every point in its initial state. The
recomputation that follows finds every result undefined and changes nothing (R34). -/
def resetCrossConnect (active : Bank) : CrossConnect where
  entries := active.binds
  records := Tab.ofFn fun p => initialPoint (active.binds.get p) none
  forces  := Tab.fill 128 none
  reports := []
  inbox   := []
  unseen  := 0

/-- R51: the raising side of the notice unit after a reset. -/
def resetNoticeUnit (k : ResetCause) (active : Bank) (u : NoticeUnit) : NoticeUnit where
  entries       := active.watches
  records       := Tab.fill 48 initialWatch
  queue         := []
  gates         := if keepsTables k then u.gates else Tab.fill 4 false
  raised        := 0
  acknowledged  := 0
  lost          := 0
  withdrawn     := 0
  absorbedTotal := 0
  tapReports    := []
  pointReports  := []
  inbox         := []

/-- R73, R86: the delivery side after a reset. -/
def resetDelivery (k : ResetCause) (u : DeliveryUnit) : DeliveryUnit where
  budget        := if keepsTables k then u.budget else 2
  retryInterval := if keepsTables k then u.retryInterval else 8
  attempts      := if keepsTables k then u.attempts else 3
  inFlight      := []
  sequence      := 0
  inbox         := []

/-- R90, R99: the publisher after a reset. -/
def resetPublisher (active : Bank) (generation : Word16) : Publisher where
  entries    := active.publish
  records    := Tab.fill 4 resetPublish
  generation := generation
  reports    := []
  inbox      := []

/-! ### Cycle timing, the ports, the engine -/

/-- R113: cycle timing after a reset. -/
def resetCycle (k : ResetCause) (c : CycleTiming) : CycleTiming :=
  if keepsTables k then { c with skewCount := 0, conflictCount := 0 }
  else ⟨0, .following, 9, 1000, 4, 9, 1000, 0, false, 0, 0⟩

/-- R115, R133: a port after power-on or release of the reset line: DOWN, its transmit side empty. What
its receiver reports of the signal is not the part's to change (DESIGN CHOICE, log entry 3). -/
def restartedPort (ps : PortState) : PortState := { State.resetPort with signal := ps.signal }

/-- R115, R133: a port after a FULL or RUNTIME reset: the cells passing through keep flowing. -/
def clearedPort (ps : PortState) : PortState :=
  { ps with response := [], derived := [], notice := [], forwardRun := 0, counters := zeroCounters }

/-- R115, R133: a port after a reset. -/
def portAfterReset (k : ResetCause) (ps : PortState) : PortState :=
  match k with
  | .powerOn => restartedPort ps
  | .resetLine => restartedPort ps
  | .full => clearedPort ps
  | .runtime => clearedPort ps

/-- R157: the station number that a strap reading gives. -/
def stationOf (straps : Byte) : Byte := if strapsInvalid straps then Config.fallbackStation else straps

/-- R157, R172: the station number after a reset, with the straps as they read then. -/
def stationAfter (k : ResetCause) (straps station : Byte) : Byte :=
  match k with
  | .powerOn => stationOf straps
  | .resetLine => stationOf straps
  | .full => station
  | .runtime => station

/-- R157: the mark of an unusable strap reading. -/
def strapMark (straps : Byte) : Indicators := if strapsInvalid straps then indicatorBit .strapInvalid else 0

/-- R170, R172: the indicators after a reset. -/
def indicatorsAfter (k : ResetCause) (straps : Byte) (i : Indicators) : Indicators :=
  match k with
  | .powerOn => strapMark straps
  | .resetLine => i ||| indicatorBit .resetSeen ||| strapMark straps
  | .full => i ||| indicatorBit .resetSeen
  | .runtime => i ||| indicatorBit .resetSeen

/-- R172: the engine after a reset. -/
def resetEngine (k : ResetCause) (straps : Byte) (e : Engine) : Engine where
  station      := stationAfter k straps e.station
  queue        := []
  state        := .running
  indicators   := indicatorsAfter k straps e.indicators
  resetCause   := k
  requestDrops := 0

/-- A reset of the part, of any of the four kinds: it reaches every block. -/
def resetPartAs (k : ResetCause) (s : State) : State :=
  let bank := resetBank k s.bank
  { pending   := s.pending
    resetLine := s.resetLine
    straps    := s.straps
    drawn     := s.drawn
    tap       := resetTapUnit bank.active
    xc        := resetCrossConnect bank.active
    notice    := resetNoticeUnit k bank.active s.notice
    delivery  := resetDelivery k s.delivery
    publisher := resetPublisher bank.active bank.generation
    cycle     := resetCycle k s.cycle
    trunk     := portAfterReset k s.trunk
    field     := portAfterReset k s.field
    bank      := bank
    engine    := resetEngine k s.straps s.engine }

/-! ### The reset line -/

/-- R115: a port while the reset line is held: DOWN, nothing waiting and no signal on its transmit pair.
Nothing is counted (DESIGN CHOICE, log entry 8). -/
def heldPort (ps : PortState) : PortState :=
  { emptied ps with line := .down, goodRun := 0, badRun := 0, sending := none }

/-- R115, R169: the reset line is made active. A pending RESET-PART is superseded. -/
def holdResetLine (s : State) : State :=
  { s with resetLine := true, trunk := heldPort s.trunk, field := heldPort s.field,
           engine := { s.engine with state := .running } }

/-- R169: a pending RESET-PART whose response has gone takes effect. -/
def pendingResetActs (s : State) : State :=
  match s.engine.state with
  | .resetPending .full .gone => resetPartAs .full s
  | .resetPending .runtime .gone => resetPartAs .runtime s
  | .resetPending _ .queued => s
  | .resetPending _ .sending => s
  | .running => s

/-- POWER_ON (R157, R172). -/
def execPowerOn (straps : Byte) (s : State) : Host.Outcome State Fault Refusal :=
  .next (resetPartAs .powerOn { s with straps := straps })

/-- RESET_LINE_HELD (R115). -/
def execResetLineHeld (s : State) : Host.Outcome State Fault Refusal := .next (holdResetLine s)

/-- RESET_LINE_RELEASE (R157, R172). -/
def execResetLineRelease (straps : Byte) (s : State) : Host.Outcome State Fault Refusal :=
  .next (resetPartAs .resetLine { s with straps := straps, resetLine := false })

/-- RESET_PART_TAKES_EFFECT (R169). Where no RESET-PART is pending, or its response has not yet gone, the
event does not come about and nothing changes (DEDUCED, log entry 5). -/
def execResetPartTakesEffect (s : State) : Host.Outcome State Fault Refusal :=
  .next (unlessHeld s (pendingResetActs s))

end Sys2Proof.Machine
end

