-- ==== Sys2Proof/Machine/Dispatch.lean ====
section
/-! DEFINITION. One arm for each command: a direct call of its meaning. -/

namespace Sys2Proof.Machine

def exec (i : Instr) (s : State) : Host.Outcome State Fault Refusal :=
  match i with
  | .powerOn straps => Sys2Proof.Machine.execPowerOn straps s
  | .resetLineHeld => Sys2Proof.Machine.execResetLineHeld s
  | .resetLineRelease straps => Sys2Proof.Machine.execResetLineRelease straps s
  | .resetPartTakesEffect => Sys2Proof.Machine.execResetPartTakesEffect s
  | .signalGained p => Sys2Proof.Machine.execSignalGained p s
  | .signalLost p => Sys2Proof.Machine.execSignalLost p s
  | .cellReceived p raw => Sys2Proof.Machine.execCellReceived p raw s
  | .intervalTimerExpiry => Sys2Proof.Machine.execIntervalTimerExpiry s
  | .enterHoldover => Sys2Proof.Machine.execEnterHoldover s
  | .tapCycleStart => Sys2Proof.Machine.execTapCycleStart s
  | .goingStale tap => Sys2Proof.Machine.execGoingStale tap s
  | .xcTapReport => Sys2Proof.Machine.execXcTapReport s
  | .xcCycleStart => Sys2Proof.Machine.execXcCycleStart s
  | .holdExpiry point => Sys2Proof.Machine.execHoldExpiry point s
  | .forceExpiry point => Sys2Proof.Machine.execForceExpiry point s
  | .watchTapReport => Sys2Proof.Machine.execWatchTapReport s
  | .watchPointReport => Sys2Proof.Machine.execWatchPointReport s
  | .noticeCycleStart => Sys2Proof.Machine.execNoticeCycleStart s
  | .deliveryCycleStart => Sys2Proof.Machine.execDeliveryCycleStart s
  | .retransmission sequence => Sys2Proof.Machine.execRetransmission sequence s
  | .noticeExpiry sequence => Sys2Proof.Machine.execNoticeExpiry sequence s
  | .publisherPointReport => Sys2Proof.Machine.execPublisherPointReport s
  | .publisherCycleStart => Sys2Proof.Machine.execPublisherCycleStart s
  | .periodDue group => Sys2Proof.Machine.execPeriodDue group s
  | .bankCycleStart => Sys2Proof.Machine.execBankCycleStart s
  | .leaseExpiry => Sys2Proof.Machine.execLeaseExpiry s
  | .validationCompletion => Sys2Proof.Machine.execValidationCompletion s
  | .transmitterPick p => Sys2Proof.Machine.execTransmitterPick p s
  | .unknownOp => Sys2Proof.Machine.execUnknownOp s
  | .echo => Sys2Proof.Machine.execEcho s
  | .readStatus => Sys2Proof.Machine.execReadStatus s
  | .readCounter => Sys2Proof.Machine.execReadCounter s
  | .clearIndicators => Sys2Proof.Machine.execClearIndicators s
  | .resetPart => Sys2Proof.Machine.execResetPart s
  | .setCycle => Sys2Proof.Machine.execSetCycle s
  | .openEdit => Sys2Proof.Machine.execOpenEdit s
  | .writeTap => Sys2Proof.Machine.execWriteTap s
  | .writeBind => Sys2Proof.Machine.execWriteBind s
  | .writeWatch => Sys2Proof.Machine.execWriteWatch s
  | .writePublish => Sys2Proof.Machine.execWritePublish s
  | .writePolicy => Sys2Proof.Machine.execWritePolicy s
  | .readEntry => Sys2Proof.Machine.execReadEntry s
  | .commit => Sys2Proof.Machine.execCommit s
  | .abortEdit => Sys2Proof.Machine.execAbortEdit s
  | .readBankStatus => Sys2Proof.Machine.execReadBankStatus s
  | .readTapState => Sys2Proof.Machine.execReadTapState s
  | .readPointState => Sys2Proof.Machine.execReadPointState s
  | .forcePoint => Sys2Proof.Machine.execForcePoint s
  | .releasePoint => Sys2Proof.Machine.execReleasePoint s
  | .readWatchState => Sys2Proof.Machine.execReadWatchState s
  | .gate => Sys2Proof.Machine.execGate s
  | .ackNotice => Sys2Proof.Machine.execAckNotice s
  | .setDelivery => Sys2Proof.Machine.execSetDelivery s
  | .referenceClockTick => Sys2Proof.Machine.execReferenceClockTick s

end Sys2Proof.Machine
end

