-- ==== Sys2Proof/Safety.lean ====
section
/-! DEFINITION. What the part keeps at every step (the relations the rules state between pieces of its
state), and the words in which claims about single commands are written. -/

namespace Sys2Proof.Machine

/-! ### The ports and the engine (R115, R116, R119, R127, R130, R159) -/

/-- A port's queues lie within their capacities and its runs in their ranges; a DOWN port holds nothing;
an UP port has signal. -/
def PortOk (ps : PortState) : Prop :=
  ps.forward.length ≤ 16 ∧ ps.response.length ≤ 4 ∧ ps.derived.length ≤ 8 ∧ ps.notice.length ≤ 8 ∧
    ps.forwardRun ≤ 7 ∧ ps.goodRun ≤ 3 ∧ ps.badRun ≤ 7 ∧
    (ps.line = .down → ps.cyclePlace = none ∧ ps.forward = [] ∧ ps.response = [] ∧ ps.derived = [] ∧
      ps.notice = [] ∧ ps.forwardRun = 0 ∧ ps.badRun = 0) ∧
    (ps.line = .up → ps.signal = true ∧ ps.goodRun = 0)

/-- Both ports are in order, the field port has no RESPONSE and no NOTICE cell, and the request queue holds
at most four records. -/
def PortsInv (s : State) : Prop :=
  PortOk s.trunk ∧ PortOk s.field ∧ s.field.response = [] ∧ s.field.notice = [] ∧ s.engine.queue.length ≤ 4

/-! ### The tap unit (R1, R2, R141, chapter 1.2) -/

/-- A tap entry's counts lie in the ranges that a write accepts. -/
def TapEntryOk (e : TapEntry) : Prop :=
  e.station.toNat ≤ 254 ∧ 1 ≤ e.qualify ∧ e.qualify ≤ 15 ∧ 1 ≤ e.spacing ∧ e.spacing ≤ 63 ∧ e.stale ≤ 255

/-- Every tap entry of a bank lies in the ranges of a write. -/
def BankTapsOk (b : Bank) : Prop := ∀ t, TapEntryOk (b.taps.get t)

/-- A tap's record lies in the ranges of chapter 1.2 under its entry, and is in the initial state when the
entry is disabled. -/
def TapOk (e : TapEntry) (r : TapRecord) : Prop :=
  r.run < e.qualify ∧ r.spacing < e.spacing ∧ r.age ≤ 255 ∧ (e.enabled = false → r = initialTap e)

/-- Every bank the part holds, and every bank on its way to a block, has its tap entries in range, and every
tap's record fits the entry the tap unit works by. -/
def TapsInv (s : State) : Prop :=
  BankTapsOk s.bank.active ∧ (∀ b, s.bank.shadow = some b → BankTapsOk b) ∧
    (∀ c ∈ s.tap.inbox, ∀ w, c.swap = some w → BankTapsOk w.bank) ∧
    (∀ t, TapEntryOk (s.tap.entries.get t)) ∧ ∀ t, TapOk (s.tap.entries.get t) (s.tap.records.get t)

/-! ### The cross-connect (R32, R33, R40) -/

/-- R33, R32: how the fields of a point's record relate to each other, to its bind entry and to its force
record. -/
def PointOk (e : BindEntry) (f : Option ForceRecord) (r : PointRecord) : Prop :=
  r.published = (match f with
    | some x => x.value
    | none => if r.cond = .failsafe then e.failSafe else if r.cond = .holding then r.lastGood else r.combined) ∧
  (r.quality = true ↔ f = none ∧ (r.cond = .normal ∨ r.cond = .degraded)) ∧
  (r.cond = .holding ↔ 0 < r.hold) ∧
  (r.cond = .failsafe → r.combined = e.failSafe) ∧
  (r.cond ≠ .failsafe → r.combined = r.lastGood) ∧
  (e.sources = [] → r.cond = .failsafe)

/-- Every point's record follows R33, and the force table holds at most sixteen records, each lasting
until released or at least one cycle start more. -/
def PointsInv (s : State) : Prop :=
  (∀ p, PointOk (s.xc.entries.get p) (s.xc.forces.get p) (s.xc.records.get p)) ∧ forceCount s ≤ 16 ∧
    ∀ p x d, s.xc.forces.get p = some x → x.remaining = some d → 1 ≤ d

/-! ### The notice unit (R49, R50, R59, R67, R75) -/

/-- R67: every raised notice is acknowledged, lost, withdrawn, queued or in flight. -/
def NoticesAccounted (s : State) : Prop :=
  s.notice.raised = s.notice.acknowledged + s.notice.lost + s.notice.withdrawn
    + BitVec.ofNat 32 s.notice.queue.length + BitVec.ofNat 32 s.delivery.inFlight.length

/-- The queue is ordered by class, holds at most 24 notices and one for a watch; a watch's queued mark says
whether it has one; a disabled watch is in its initial state; at most 8 notices are in flight, under
distinct sequence numbers; and every raised notice is accounted for. -/
def NoticesInv (s : State) : Prop :=
  s.notice.queue.length ≤ 24 ∧ s.notice.queue.Pairwise (fun a b => a.cls ≤ b.cls) ∧
    (s.notice.queue.map (·.watch)).Nodup ∧
    (∀ w, (s.notice.records.get w).queued = true ↔ w ∈ s.notice.queue.map (·.watch)) ∧
    (∀ w, (s.notice.entries.get w).enabled = false → s.notice.records.get w = initialWatch) ∧
    s.delivery.inFlight.length ≤ 8 ∧ (s.delivery.inFlight.map (·.sequence)).Nodup ∧ NoticesAccounted s

/-! ### The bank unit (R134, R135, R146) -/

/-- R134, R135: a session's fields agree with the bank state. -/
def SessionOk (b : BankUnit) : Prop :=
  (b.state = .idle ↔ b.shadow = none) ∧
    (b.state = .idle → b.owner = none ∧ b.lease = 0 ∧ b.leaseRemaining = 0) ∧
    (b.state ≠ .idle → b.owner ≠ none ∧ 1 ≤ b.lease ∧ b.lease ≤ 255) ∧
    (b.state = .editing → 1 ≤ b.leaseRemaining ∧ b.leaseRemaining ≤ b.lease) ∧
    (b.target = .none ↔ b.state = .idle ∨ b.state = .editing) ∧
    (b.targetPassed = true → b.state = .validating ∧ b.target ≠ .next) ∧
    (b.firstError ≠ none ↔ b.lastOutcome = .rejected)

/-- R134, R135, R146: the session is in order, the active bank satisfies every validation rule, and so does
the shadow bank of an ARMED session. -/
def BanksInv (s : State) : Prop :=
  SessionOk s.bank ∧ validate s.engine.station s.bank.active = none ∧
    ∀ b, s.bank.state = .armed → s.bank.shadow = some b → validate s.engine.station b = none

/-! ### The words of claims about commands -/

/-- The request `r`, whose operation code is `op`, is the one the engine takes now (R160). -/
def Ready (s : State) (r : Request) (op : Byte) : Prop :=
  s.resetLine = false ∧ s.engine.state = .running ∧ s.trunk.response.length < 4 ∧
    s.engine.queue.head? = some r ∧ r.operation = op

/-- R138, R160 to R163: what the taking of a request does whatever its operation: its record leaves the
queue, the owner's lease is reloaded in EDITING, and its one response, with a result code and data bytes,
is placed for the trunk port. -/
def answered (s : State) (r : Request) (code : Byte) (data : List Byte) : State :=
  { s with
    engine := { s.engine with queue := s.engine.queue.drop 1 },
    bank := { s.bank with leaseRemaining :=
      if s.bank.state = .editing ∧ s.bank.owner = some r.originator then s.bank.lease else s.bank.leaseRemaining },
    trunk :=
      if s.trunk.line = .up then
        { s.trunk with response := s.trunk.response ++ [withCheck
          ⟨6, 0, s.engine.station, 0, r.originator, r.tag, r.operation ++ code ++ packData data, r.arrival, 0⟩] }
      else { s.trunk with counters := { s.trunk.counters with discardedDown := s.trunk.counters.discardedDown + 1 } } }

/-- The cells that wait in a port's transmit side. -/
def waitingCells (ps : PortState) : Nat :=
  (if ps.cyclePlace.isSome then 1 else 0) + ps.forward.length + ps.response.length + ps.derived.length
    + ps.notice.length

/-- R117, R118: what a port becomes on going from UP to DOWN: every waiting cell discarded and counted. -/
def wentDown (ps : PortState) : PortState :=
  { ps with
    line := .down, goodRun := 0, badRun := 0, cyclePlace := none, forward := [], response := [], derived := [],
    notice := [], forwardRun := 0,
    counters := { ps.counters with
      discardedDown := ps.counters.discardedDown + BitVec.ofNat 32 (waitingCells ps) } }

/-- R119, R126: a port for which a passed cell has been placed. -/
def forwardedTo (c : Cell) (ps : PortState) : PortState :=
  if ps.line = .down then { ps with counters := { ps.counters with discardedDown := ps.counters.discardedDown + 1 } }
  else if ps.forward.length < 16 then { ps with forward := ps.forward ++ [c] }
  else { ps with counters := { ps.counters with forwardDrops := ps.counters.forwardDrops + 1 } }

/-- R119, R128: a port for which a CYCLE cell has been placed. -/
def cyclePlacedFor (c : Cell) (ps : PortState) : PortState :=
  if ps.line = .down then { ps with counters := { ps.counters with discardedDown := ps.counters.discardedDown + 1 } }
  else if ps.cyclePlace = none then { ps with cyclePlace := some c }
  else { ps with cyclePlace := some c, counters := { ps.counters with placeReplaced := ps.counters.placeReplaced + 1 } }

/-- R120: a port that has accepted a cell other than FILL. -/
def acceptedAt (ps : PortState) : PortState :=
  { ps with badRun := 0, counters := { ps.counters with received := ps.counters.received + 1 } }

/-- R169: the pending RESET-PART of an engine whose waiting response a flush of the trunk port takes away. -/
def flushedBy (p : Port) (e : EngineState) : EngineState :=
  match p, e with
  | .field, e => e
  | .trunk, .resetPending scope .queued => .resetPending scope .gone
  | .trunk, .resetPending scope .sending => .resetPending scope .sending
  | .trunk, .resetPending scope .gone => .resetPending scope .gone
  | .trunk, .running => .running

/-- R3, R34, R50, R73, R86, R90, R113, R134, R156: a part whose active bank a reset has emptied, with its
ports, its engine and its straps as given: every other block at its value after such a reset. -/
def emptiedPart (s : State) (straps : Byte) (resetLine : Bool) (trunk field : PortState) (engine : Engine) : State where
  pending   := s.pending
  resetLine := resetLine
  straps    := straps
  drawn     := s.drawn
  tap       := ⟨emptyBank.taps, Tab.fill 192 ⟨.pending, false, false, 0, 0, 0, 0, 0⟩, []⟩
  xc        := ⟨emptyBank.binds, Tab.fill 128 ⟨.failsafe, false, false, 0, false, false, 0⟩, Tab.fill 128 none, [], [], 0⟩
  notice    := ⟨emptyBank.watches, Tab.fill 48 ⟨0, false, 0⟩, [], Tab.fill 4 false, 0, 0, 0, 0, 0, [], [], []⟩
  delivery  := ⟨2, 8, 3, [], 0, []⟩
  publisher := ⟨emptyBank.publish, Tab.fill 4 ⟨0, true⟩, 0, [], []⟩
  cycle     := ⟨0, .following, 9, 1000, 4, 9, 1000, 0, false, 0, 0⟩
  trunk     := trunk
  field     := field
  bank      := ⟨emptyBank, none, .idle, none, 0, 0, .none, false, 0, .none, none, []⟩
  engine    := engine

/-- R115, R133: a port that power-on or release of the reset line has put DOWN, its signal as `signal`. -/
def startingPort (signal : Bool) : PortState :=
  ⟨.down, signal, 0, 0, none, [], [], [], [], 0, none, ⟨0, 0, 0, 0, 0, 0, 0, 0, 0, 0⟩⟩

/-- R133: a port after a FULL or RUNTIME reset. -/
def portKept (ps : PortState) : PortState :=
  { ps with response := [], derived := [], notice := [], forwardRun := 0,
            counters := ⟨0, 0, 0, 0, 0, 0, 0, 0, 0, 0⟩ }

/-- R157: the station number that a strap reading gives. -/
def strapStation (straps : Byte) : Byte := if straps = 0 ∨ straps = 255 then 254 else straps

/-- R157: the STRAP-INVALID bit that a strap reading sets. -/
def strapInvalidBit (straps : Byte) : Indicators := if straps = 0 ∨ straps = 255 then 0x080 else 0

/-- The state after a command taken a number of times, one after another. -/
def repeated (c : Instr) : Nat → State → Host.Outcome State Fault Refusal
  | 0, s => .next s
  | k + 1, s =>
    match exec c s with
    | .next t => repeated c k t
    | .fault r => .fault r
    | .refused r => .refused r

/-- R119: a port for which a NOTICE cell has been placed. -/
def noticePlacedFor (c : Cell) (ps : PortState) : PortState :=
  if ps.line = .down then { ps with counters := { ps.counters with discardedDown := ps.counters.discardedDown + 1 } }
  else { ps with notice := ps.notice ++ [c] }

/-- R94, R119: a port for which a DERIVED cell has been placed. -/
def derivedPlacedFor (c : Cell) (ps : PortState) : PortState :=
  if ps.line = .down then { ps with counters := { ps.counters with discardedDown := ps.counters.discardedDown + 1 } }
  else if ps.derived.length < 8 then { ps with derived := ps.derived ++ [c] }
  else { ps with counters := { ps.counters with derivedDrops := ps.counters.derivedDrops + 1 } }

/-- R39: a part to whose notice unit and publisher point reports have been handed. -/
def toldOfPoints (s : State) (behind : Nat) (reps : List PointReport) : State :=
  { s with
    notice := { s.notice with pointReports := s.notice.pointReports ++ reps.map fun r => ⟨r, behind⟩ },
    publisher := { s.publisher with reports := s.publisher.reports ++ reps } }

/-- R149: a part whose bank unit has passed a cycle start on to the five blocks that take it. -/
def passedOn (s : State) (c : CycleStart) : State :=
  { s with
    tap := { s.tap with inbox := s.tap.inbox ++ [c] },
    xc := { s.xc with inbox := s.xc.inbox ++ [c] },
    notice := { s.notice with inbox := s.notice.inbox ++ [c] },
    delivery := { s.delivery with inbox := s.delivery.inbox ++ [c] },
    publisher := { s.publisher with inbox := s.publisher.inbox ++ [c] } }

/-- R39: the reports of a change of some points: one for each point in which anything that R39 compares
differs, in ascending point number. -/
def ReportsOf (before after : PointNo → PointFace) (reps : List PointReport) : Prop :=
  (∀ p x y, (⟨p, x, y⟩ : PointReport) ∈ reps ↔ x = before p ∧ y = after p ∧ x ≠ y) ∧
    (reps.map (·.point)).Pairwise (· < ·)

/-- R58: the notice that a watch raises at a count. -/
def raisedNotice (s : State) (w : WatchNo) (o : Occurrence) (count : Word16) : Notice :=
  ⟨w, (s.notice.entries.get w).cls, (s.notice.entries.get w).trigger, o.value, o.cond, o.forced, count, count, 1⟩

/-- R62: whether a value is off the level of a HIGH or LOW watch. -/
def OffItsLevel (tr : Trigger) (value : Bool) : Prop :=
  (tr = .high ∧ value = false) ∨ (tr = .low ∧ value = true)

/-- R62, R66: the queued notice of a watch, if it has one, is withdrawn. -/
def withdrawnFrom (s : State) (w : WatchNo) : State :=
  if ∃ n ∈ s.notice.queue, n.watch = w then
    { s with notice := { s.notice with
        queue := s.notice.queue.filter fun n => n.watch ≠ w,
        records := s.notice.records.set w { s.notice.records.get w with queued := false },
        withdrawn := s.notice.withdrawn + 1 } }
  else s

/-- R140, R176: the number of the first argument byte whose range test fails. -/
def firstFailing (tests : List (Nat × Bool)) : Option Nat := (tests.find? fun x => !x.2).map (·.1)

/-- R146: an entry of a bank breaks one of the seven rules, under a station number. -/
def RuleBroken (station : Byte) (b : Bank) (table : TableName) (index : Nat) (reason : Reason) : Prop :=
  (table = .tap ∧ ∃ t : TapNo, t.val = index ∧ (b.taps.get t).enabled = true ∧
    ((reason = .ownStation ∧ (b.taps.get t).station = station) ∨
      (reason = .staleLimit ∧ (b.taps.get t).stale ≠ 0 ∧ (b.taps.get t).stale ≤ (b.taps.get t).spacing))) ∨
  (table = .bind ∧ ∃ p : PointNo, p.val = index ∧
    ((reason = .sourceDisabled ∧ ∃ t ∈ (b.binds.get p).sources, (b.taps.get t).enabled = false) ∨
      (reason = .duplicateSource ∧ ¬(b.binds.get p).sources.Nodup) ∨
      (reason = .sourceCount ∧ (b.binds.get p).sources ≠ [] ∧
        (((b.binds.get p).fn = .follow ∧ (b.binds.get p).sources.length ≠ 1) ∨
          ((b.binds.get p).fn = .vote ∧ (b.binds.get p).sources.length ≠ 3) ∨
          3 < (b.binds.get p).sources.length)))) ∨
  (table = .watch ∧ ∃ w : WatchNo, w.val = index ∧
    ((reason = .subjectDisabled ∧ (b.watches.get w).enabled = true ∧
        ∃ t, (b.watches.get w).subject = .tap t ∧ (b.taps.get t).enabled = false) ∨
      (reason = .levelHoldoff ∧ ((b.watches.get w).trigger = .high ∨ (b.watches.get w).trigger = .low) ∧
        (b.watches.get w).holdoff = 0)))

/-- R146: the order in which validation finds errors: by table, then by index, then by rule. -/
def FoundBefore (x y : FirstError) : Prop :=
  (tableCode x.table).toNat < (tableCode y.table).toNat ∨
    (x.table = y.table ∧ (x.index < y.index ∨
      (x.index = y.index ∧ (reasonCode x.reason).toNat < (reasonCode y.reason).toNat)))

end Sys2Proof.Machine
end

