-- ==== Sys2Proof/Certificates/Slice0/Obligations.lean ====
section
/-! DEFINITION. The statements for the provers. A state in them is any state at all, unless a premise says
otherwise; where a premise names an invariant of Safety.lean, that invariant is itself a statement. -/

open Sys2Proof Sys2Proof.Machine

/-! ### The whole part -/

/-- A step runs the command at the front of the queue on the state with the queue's rest. That the part
idles on an empty queue is the model's choice (log entry 1). -/
def Obligations.StepTakesTheFrontCommand : Prop :=
  (∀ (c : Instr) (rest : List Instr) (s : State),
    step { s with pending := c :: rest } = exec c { s with pending := rest }) ∧
  ∀ s : State, s.pending = [] → step s = .next s

/-- Every command is taken in every state, and none touches the queue of commands (log entries 1 and 5). -/
def Obligations.EveryCommandCompletesAndKeepsTheQueue : Prop :=
  ∀ (c : Instr) (s : State), ∃ t, exec c s = .next t ∧ t.pending = s.pending

/-- R157, R134, R100: the station number changes only at power-on and at release of the reset line; the
active bank and its generation only there, at a reset that takes effect and at a cycle start the bank unit
takes; the cycle count and the established mark only at a reset, at an expiry, and at an arriving cell. -/
def Obligations.StationBankAndCountHaveTheirOwnCauses : Prop :=
  ∀ (c : Instr) (s t : State), exec c s = .next t →
    (∀ straps, c ≠ .powerOn straps ∧ c ≠ .resetLineRelease straps) →
    (t.engine.station = s.engine.station ∧ t.straps = s.straps) ∧
    (c ≠ .resetPartTakesEffect →
      (c ≠ .bankCycleStart → t.bank.active = s.bank.active ∧ t.bank.generation = s.bank.generation) ∧
      (c ≠ .intervalTimerExpiry → c ≠ .enterHoldover → c ≠ .referenceClockTick →
        (∀ p raw, c ≠ .cellReceived p raw) →
        t.cycle.count = s.cycle.count ∧ t.cycle.established = s.cycle.established))

/-! ### Resets -/

/-- R51, R86, R90, R113, R133, R156, R157, R172: each kind of reset leaves every piece of state at the value
the rules' tables give. The model's choices: reports and cycle starts on their way are dropped (log entry 7), the
receivers' signal is kept (log entry 3), no cell is in transmission after power-on and release (log entry 16), a
release acts whether or not the line was held (log entry 8), and a RESET-PART acts when its response is gone (log
entry 17). -/
def Obligations.ResetsLeaveTheStatedValues : Prop :=
  ∀ (s : State) (straps : Byte),
    exec (.powerOn straps) s = .next (emptiedPart s straps s.resetLine (startingPort s.trunk.signal)
      (startingPort s.field.signal) ⟨strapStation straps, [], .running, strapInvalidBit straps, .powerOn, 0⟩) ∧
    exec (.resetLineRelease straps) s = .next (emptiedPart s straps false (startingPort s.trunk.signal)
      (startingPort s.field.signal) ⟨strapStation straps, [], .running,
        s.engine.indicators ||| 0x100 ||| strapInvalidBit straps, .resetLine, 0⟩) ∧
    (s.resetLine = false → s.engine.state = .resetPending .full .gone →
      exec .resetPartTakesEffect s = .next (emptiedPart s s.straps false (portKept s.trunk) (portKept s.field)
        ⟨s.engine.station, [], .running, s.engine.indicators ||| 0x100, .full, 0⟩)) ∧
    (s.resetLine = false → s.engine.state = .resetPending .runtime .gone →
      exec .resetPartTakesEffect s = .next
        { s with
          tap := ⟨s.bank.active.taps, Tab.ofFn fun t => ⟨.pending, (s.bank.active.taps.get t).preset,
            (s.bank.active.taps.get t).preset, 0, 0, 0, 0, 0⟩, []⟩,
          xc := ⟨s.bank.active.binds, Tab.ofFn fun p => ⟨.failsafe, (s.bank.active.binds.get p).failSafe,
            (s.bank.active.binds.get p).failSafe, 0, (s.bank.active.binds.get p).failSafe, false, 0⟩,
            Tab.fill 128 none, [], [], 0⟩,
          notice := ⟨s.bank.active.watches, Tab.fill 48 ⟨0, false, 0⟩, [], s.notice.gates, 0, 0, 0, 0, 0, [], [], []⟩,
          delivery := { s.delivery with inFlight := [], sequence := 0, inbox := [] },
          publisher := ⟨s.bank.active.publish, Tab.fill 4 ⟨0, true⟩, s.bank.generation, [], []⟩,
          cycle := { s.cycle with skewCount := 0, conflictCount := 0 },
          trunk := portKept s.trunk,
          field := portKept s.field,
          bank := { s.bank with
            shadow := none, state := .idle, owner := none, lease := 0, leaseRemaining := 0, target := .none,
            targetPassed := false, inbox := [] },
          engine := ⟨s.engine.station, [], .running, s.engine.indicators ||| 0x100, .runtime, 0⟩ })

/-- The state the model starts from is the one a power-on leaves, but for the model's own count of the choices it has
drawn (log entry 23), which no reset touches. The straps, the reset line and the signal there
(log entries 2 and 3), the empty inboxes (log entry 7) and that no cell is in transmission (log entry 16) are the
model's choices. -/
def Obligations.PowerOnReachesTheResetState : Prop :=
  (∀ s : State, s.pending = [] → s.resetLine = false → s.trunk.signal = true → s.field.signal = true →
    exec (.powerOn 60) s = .next { State.reset with drawn := s.drawn }) ∧
  State.reset.engine.station = 60 ∧ State.reset.bank.active = emptyBank ∧ State.reset.cycle.state = .following ∧
    State.reset.trunk.line = .down ∧ State.reset.field.line = .down

/-- R115, R113, R156: the held reset line puts both ports DOWN, and while it is held no command but
power-on, its release and the receivers' signal reports changes anything. That the ports' queues are
emptied uncounted at once is the model's (log entry 8), and that no cell is in transmission then (log entry 16). -/
def Obligations.HeldResetLineStopsThePart : Prop :=
  (∀ s : State, exec .resetLineHeld s = .next
    { s with
      resetLine := true,
      trunk := { startingPort s.trunk.signal with counters := s.trunk.counters },
      field := { startingPort s.field.signal with counters := s.field.counters },
      engine := { s.engine with state := .running } }) ∧
  ∀ (c : Instr) (s : State), s.resetLine = true →
    (∀ straps, c ≠ .powerOn straps ∧ c ≠ .resetLineRelease straps) →
    (∀ p, c ≠ .signalGained p ∧ c ≠ .signalLost p) → c ≠ .resetLineHeld → exec c s = .next s

/-! ### The ports -/

/-- R116, R117, R118, R169: gain and loss of signal at a port. That the flush of the trunk port moves a pending
RESET-PART from queued to gone, and only then, is the model's reading (log entry 17). -/
def Obligations.SignalReportsActOnTheirPort : Prop :=
  ∀ (p : Port) (s : State),
    ((s.port p).signal = false →
      exec (.signalGained p) s = .next (s.setPort p { s.port p with signal := true, goodRun := 0 })) ∧
    ((s.port p).signal = true → exec (.signalGained p) s = .next s) ∧
    ((s.port p).line = .down →
      exec (.signalLost p) s = .next (s.setPort p { s.port p with signal := false, goodRun := 0 })) ∧
    ((s.port p).line = .up →
      exec (.signalLost p) s = .next
        ({ s with engine := { s.engine with
            indicators := s.engine.indicators ||| 0x010, state := flushedBy p s.engine.state } }.setPort p
          { wentDown (s.port p) with signal := false }))

/-- R115, R116: a DOWN port counts good cells toward UP while its receiver has signal, and every cell that arrives
there is discarded. -/
def Obligations.DownPortAcquiresItsLine : Prop :=
  ∀ (p : Port) (raw : RawCell) (s : State), s.resetLine = false → (s.port p).line = .down →
    (goodCheck raw = false → exec (.cellReceived p raw) s = .next (s.setPort p { s.port p with goodRun := 0 })) ∧
    (goodCheck raw = true → (s.port p).signal = true → (s.port p).goodRun < 3 →
      exec (.cellReceived p raw) s = .next (s.setPort p { s.port p with goodRun := (s.port p).goodRun + 1 })) ∧
    (goodCheck raw = true → (s.port p).signal = true → (s.port p).goodRun = 3 →
      exec (.cellReceived p raw) s = .next (s.setPort p { s.port p with line := .up, goodRun := 0, badRun := 0 })) ∧
    (goodCheck raw = true → (s.port p).signal = false → exec (.cellReceived p raw) s = .next s)

/-- R117, R118, R120, R169: a cell with bad check at an UP port is counted, and the eighth in a row takes the port
DOWN. That the flush of the trunk port moves a pending RESET-PART from queued to gone, and only then, is the model's
reading (log entry 17). -/
def Obligations.BadCellsAreCountedAndTheEighthTakesThePortDown : Prop :=
  ∀ (p : Port) (raw : RawCell) (s : State), s.resetLine = false → (s.port p).line = .up → goodCheck raw = false →
    ((s.port p).badRun < 7 →
      exec (.cellReceived p raw) s = .next (s.setPort p
        { s.port p with badRun := (s.port p).badRun + 1, counters := { (s.port p).counters with
            checkErrors := (s.port p).counters.checkErrors + 1 } })) ∧
    ((s.port p).badRun = 7 →
      exec (.cellReceived p raw) s = .next
        ({ s with engine := { s.engine with
            indicators := s.engine.indicators ||| 0x010, state := flushedBy p s.engine.state } }.setPort p
          (wentDown { s.port p with counters := { (s.port p).counters with
            checkErrors := (s.port p).counters.checkErrors + 1 } })))

/-- R120, R121, R124: a FILL cell is counted nowhere; a STATE, DERIVED or NOTICE cell of the part's own station
is a clash; a cell that could not have been meant for where it arrived is misplaced. A RESPONSE at the field port
of another station than 255, which R122 and R124 treat apart, stands in PassageFollowsThePolicyTable. -/
def Obligations.ClashesAndMisplacedCellsAreDiscarded : Prop :=
  ∀ (p : Port) (raw : RawCell) (s : State), s.resetLine = false → (s.port p).line = .up → goodCheck raw = true →
    let c := Cell.ofRaw raw
    (c.kindCode = 0 → exec (.cellReceived p raw) s = .next (s.setPort p { s.port p with badRun := 0 })) ∧
    (c.kindCode = 2 ∨ c.kindCode = 3 ∨ c.kindCode = 4 → c.station = s.engine.station →
      exec (.cellReceived p raw) s = .next
        ({ s with engine := { s.engine with indicators := s.engine.indicators ||| 0x008 } }.setPort p
          { acceptedAt (s.port p) with counters := { (acceptedAt (s.port p)).counters with
            clashes := (s.port p).counters.clashes + 1 } })) ∧
    ((p = .field ∧ (c.kindCode = 1 ∨ c.kindCode = 5 ∨ c.kindCode = 6 ∧ c.station = 255)) ∨
      (p = .trunk ∧ (c.kindCode = 4 ∧ c.station ≠ s.engine.station ∨ c.kindCode = 6)) ∨
      (p = .field ∧ c.kindCode = 4 ∧ c.station = 255 ∧ s.engine.station ≠ 255) ∨
      ((c.kindCode = 2 ∨ c.kindCode = 3) ∧ c.station = 255 ∧ s.engine.station ≠ 255 ∧
        ∀ t, (s.tap.entries.get t).station ≠ 255) →
      exec (.cellReceived p raw) s = .next (s.setPort p
        { acceptedAt (s.port p) with counters := { (acceptedAt (s.port p)).counters with
          misplaced := (s.port p).counters.misplaced + 1 } }))

/-- R122, R126, R119: a NOTICE or RESPONSE cell from the field and a REQUEST for another station from the trunk
go through the policy table of the active bank; a cell of unknown kind is forwarded without it. Whether a RESPONSE at
the field port goes to passage, by R122's table, or is misplaced, by the first case of R124, is left open (log entry
22): the statement gives both. -/
def Obligations.PassageFollowsThePolicyTable : Prop :=
  ∀ (p : Port) (raw : RawCell) (s : State), s.resetLine = false → (s.port p).line = .up → goodCheck raw = true →
    let c := Cell.ofRaw raw
    (∀ h : c.station.toNat < 255,
      let policy := s.bank.active.policy.get ⟨c.station.toNat, h⟩
      let passed := if (p = .field ∧ policy.upBlock = true) ∨ (p = .trunk ∧ policy.downBlock = true) then
          s.setPort p { acceptedAt (s.port p) with counters := { (acceptedAt (s.port p)).counters with
            blocked := (s.port p).counters.blocked + 1 } }
        else (s.setPort p (acceptedAt (s.port p))).setPort p.other (forwardedTo c (s.port p.other))
      (p = .field ∧ c.kindCode = 4 ∧ c.station ≠ s.engine.station ∨
        p = .trunk ∧ c.kindCode = 5 ∧ c.station ≠ s.engine.station → exec (.cellReceived p raw) s = .next passed) ∧
      (p = .field → c.kindCode = 6 → exec (.cellReceived p raw) s = .next
        (if Config.fieldResponseIsMisplaced = true then
          s.setPort p { acceptedAt (s.port p) with counters := { (acceptedAt (s.port p)).counters with
            misplaced := (s.port p).counters.misplaced + 1 } }
        else passed))) ∧
    (7 ≤ c.kindCode.toNat → exec (.cellReceived p raw) s = .next
      ((s.setPort p (acceptedAt (s.port p))).setPort p.other (forwardedTo c (s.port p.other))))

/-- R5, R6, R7, R10, R18, R19, R126: a STATE or DERIVED cell of another station is sampled by every tap that wants
it when its stamp lies in the window, is counted as late otherwise, and goes to passage all the same. `unseen` is the
model's own: the cross-connect may not have seen all these samples when it takes the first of the reports (R38, log
entry 23). -/
def Obligations.StateCellsAreSampledAndPassed : Prop :=
  ∀ (p : Port) (raw : RawCell) (s : State), s.resetLine = false → (s.port p).line = .up → goodCheck raw = true →
    let c := Cell.ofRaw raw
    c.kindCode = 2 ∨ c.kindCode = 3 → c.station ≠ s.engine.station → ∀ h : c.station.toNat < 255,
      let policy := s.bank.active.policy.get ⟨c.station.toNat, h⟩
      let wanted := fun t : TapNo =>
        (s.tap.entries.get t).enabled = true ∧ (s.tap.entries.get t).side = p ∧
          (s.tap.entries.get t).station = c.station ∧ (s.tap.entries.get t).slot = c.slot ∧
          (s.tap.records.get t).spacing = 0
      let passed := fun (ps : PortState) (u : State) =>
        if (p = .field ∧ policy.upBlock = true) ∨ (p = .trunk ∧ policy.downBlock = true) then
          u.setPort p { ps with counters := { ps.counters with blocked := ps.counters.blocked + 1 } }
        else (u.setPort p ps).setPort p.other (forwardedTo c (s.port p.other))
      (c.stamp = s.cycle.count ∨ c.stamp = s.cycle.count - 1 →
        ∃ (recs : Tab 192 TapRecord) (reps : List TapReport),
          exec (.cellReceived p raw) s = .next (passed (acceptedAt (s.port p))
            { s with
              tap := { s.tap with records := recs },
              xc := { s.xc with
                reports := s.xc.reports ++ reps, unseen := if reps = [] then s.xc.unseen else reps.length },
              notice := { s.notice with tapReports := s.notice.tapReports ++ reps } }) ∧
          (∀ t, ¬wanted t → recs.get t = s.tap.records.get t) ∧
          (∀ t, wanted t → recs.get t = takeSample (s.tap.entries.get t)
            (xor (raw.getLsbD (8 * (15 - (7 - (s.tap.entries.get t).line.toNat / 8))
              + (s.tap.entries.get t).line.toNat % 8)) (s.tap.entries.get t).invert)
            (raw.getLsbD (8 * (15 - (11 - (s.tap.entries.get t).line.toNat / 8))
              + (s.tap.entries.get t).line.toNat % 8)) (s.tap.records.get t)) ∧
          (∀ t x y b, (⟨t, x, y, b⟩ : TapReport) ∈ reps ↔
            x = ⟨(s.tap.records.get t).qualified, (s.tap.records.get t).cond⟩ ∧
            y = ⟨(recs.get t).qualified, (recs.get t).cond⟩ ∧ x ≠ y ∧
            (b = true ↔ x.value ≠ y.value ∧ (x.cond = .live ∨ x.cond = .suspect))) ∧
          (reps.map (·.tap)).Pairwise (· < ·)) ∧
      (c.stamp ≠ s.cycle.count → c.stamp ≠ s.cycle.count - 1 →
        ((∃ t, wanted t) → exec (.cellReceived p raw) s = .next (passed
          { acceptedAt (s.port p) with counters := { (acceptedAt (s.port p)).counters with
            lateCells := (s.port p).counters.lateCells + 1 } } s)) ∧
        ((¬∃ t, wanted t) → exec (.cellReceived p raw) s = .next (passed (acceptedAt (s.port p)) s)))

/-- R9, R11, R12, R13: what a sample does to a tap's record. -/
def Obligations.SamplesAreAdoptedQualifiedOrDistrusted : Prop :=
  ∀ (e : TapEntry) (raw : Bool) (r : TapRecord),
    let n := if 0 < r.run ∧ raw = r.candidate then r.run + 1 else 1
    takeSample e raw false r = { r with
      cond := .suspect, run := 0, untrusted := r.untrusted + 1, age := 0, spacing := e.spacing - 1 } ∧
    (r.cond = .pending ∨ r.cond = .stale → takeSample e raw true r = { r with
      cond := .live, qualified := raw, candidate := raw, run := 0, age := 0, spacing := e.spacing - 1,
      changes := if raw = r.qualified then r.changes else r.changes + 1 }) ∧
    (r.cond = .live ∨ r.cond = .suspect →
      (raw = r.qualified → takeSample e raw true r = { r with
        cond := .live, run := 0, age := 0, spacing := e.spacing - 1 }) ∧
      (raw ≠ r.qualified → n < e.qualify → takeSample e raw true r = { r with
        cond := .live, candidate := raw, run := n, age := 0, spacing := e.spacing - 1 }) ∧
      (raw ≠ r.qualified → e.qualify ≤ n → takeSample e raw true r = { r with
        cond := .live, qualified := raw, candidate := raw, run := 0, age := 0, spacing := e.spacing - 1,
        changes := r.changes + 1 }))

/-- R102, R105, R108, R109: a trunk CYCLE cell is taken as a cycle start in FOLLOWING and HOLDOVER, and is a
conflict in ORIGINATING. -/
def Obligations.TrunkCycleCellsAreFollowedOrConflict : Prop :=
  ∀ (raw : RawCell) (s : State), s.resetLine = false → s.trunk.line = .up → goodCheck raw = true →
    let c := Cell.ofRaw raw
    c.kindCode = 1 →
      (s.cycle.state ≠ .originating →
        let skew := s.cycle.established = true ∧ c.stamp ≠ s.cycle.count + 1
        exec (.cellReceived .trunk raw) s = .next
          { s with
            cycle := { s.cycle with
              count := c.stamp, state := .following, prescaleCount := s.cycle.divide,
              periodCount := s.cycle.period, missed := 0, established := true,
              skewCount := if skew then s.cycle.skewCount + 1 else s.cycle.skewCount },
            bank := { s.bank with inbox := s.bank.inbox ++ [c.stamp] },
            trunk := acceptedAt s.trunk,
            field := cyclePlacedFor c s.field,
            engine := { s.engine with
              indicators := if skew then s.engine.indicators ||| 0x020 else s.engine.indicators } }) ∧
      (s.cycle.state = .originating → exec (.cellReceived .trunk raw) s = .next
          { s with
            cycle := { s.cycle with conflictCount := s.cycle.conflictCount + 1 },
            trunk := acceptedAt s.trunk,
            engine := { s.engine with indicators := s.engine.indicators ||| 0x004 } })

/-- R123, R158, R159: a trunk REQUEST for the part's own station, or a broadcast one, makes a request record;
a broadcast is also forwarded. -/
def Obligations.RequestsAreQueuedOrDropped : Prop :=
  ∀ (raw : RawCell) (s : State), s.resetLine = false → s.trunk.line = .up → goodCheck raw = true →
    let c := Cell.ofRaw raw
    let r : Request := ⟨c.slot, c.sequence, raw.extractLsb' 88 8, raw.extractLsb' 32 56, s.cycle.count⟩
    let engine := if s.engine.queue.length < 4 then { s.engine with queue := s.engine.queue ++ [r] }
      else { s.engine with requestDrops := s.engine.requestDrops + 1 }
    c.kindCode = 5 →
      (c.station = s.engine.station → exec (.cellReceived .trunk raw) s = .next
        { s with trunk := acceptedAt s.trunk, engine := engine }) ∧
      (c.station = 255 → s.engine.station ≠ 255 → exec (.cellReceived .trunk raw) s = .next
        { s with trunk := acceptedAt s.trunk, engine := engine, field := forwardedTo c s.field })

/-- R132: every accepted cell other than FILL ends in exactly one disposition, and a broadcast REQUEST in two. A
CYCLE cell handed to cycle timing is taken there as a cycle start or as a conflict; the copy cycle timing then places
for the field port is its own (R119, R128). -/
def Obligations.EveryAcceptedCellHasOneDisposition : Prop :=
  ∀ (p : Port) (raw : RawCell) (s : State), s.resetLine = false → (s.port p).line = .up → goodCheck raw = true →
    let c := Cell.ofRaw raw
    let refused := fun t : State =>
      (t.port p).counters.clashes + (t.port p).counters.misplaced + (t.port p).counters.blocked
    let queued := fun t : State => BitVec.ofNat 32 (t.port p.other).forward.length + (t.port p.other).counters.forwardDrops
    let passed := fun t : State => queued t + (t.port p.other).counters.discardedDown
    let requested := fun t : State => BitVec.ofNat 32 t.engine.queue.length + t.engine.requestDrops
    let timed := fun t : State => BitVec.ofNat 32 t.bank.inbox.length + t.cycle.conflictCount
    let cycle := p = .trunk ∧ c.kindCode = 1
    let broadcast := p = .trunk ∧ c.kindCode = 5 ∧ c.station = 255 ∧ s.engine.station ≠ 255
    c.kindCode ≠ 0 → ∃ t, exec (.cellReceived p raw) s = .next t ∧
      (t.port p).counters.received = (s.port p).counters.received + 1 ∧
      (cycle → timed t = timed s + 1 ∧ refused t = refused s ∧ queued t = queued s ∧ requested t = requested s) ∧
      (broadcast → requested t = requested s + 1 ∧ passed t = passed s + 1 ∧ refused t = refused s ∧ timed t = timed s) ∧
      (¬cycle → ¬broadcast →
        refused t + passed t + requested t = refused s + passed s + requested s + 1 ∧ timed t = timed s)

/-- R118, R129, R130, R169: the cell that a port's arbiter picks, what the pick leaves, and what it does to the
response of a pending RESET-PART. The stages of that response (in transmission from the pick that empties the RESPONSE
queue, gone at the trunk's next pick, and gone from then on) are the model's reading (log entry 17). -/
def Obligations.ArbiterPicksInOrderWithAFairShare : Prop :=
  ∀ (p : Port) (s : State), s.resetLine = false →
    let ps := s.port p
    let fill := withCheck ⟨0, 0, s.engine.station, 0, 0, 0, 0, 0, 0⟩
    let becomes := fun q : PortState => ∃ t, exec (.transmitterPick p) s = .next t ∧
      (p = .field ∨ s.engine.state = .running → t = s.setPort p q) ∧
      { t with engine := { t.engine with state := s.engine.state } } = s.setPort p q
    (ps.line = .down → becomes { ps with sending := some fill }) ∧
    (ps.line = .up →
      (∀ c, ps.cyclePlace = some c → becomes { ps with cyclePlace := none, sending := some c, forwardRun := 0 }) ∧
      (∀ c rest, ps.cyclePlace = none → ps.forward = c :: rest →
        ps.forwardRun < 7 ∨ (ps.response = [] ∧ ps.derived = [] ∧ ps.notice = []) →
        becomes { ps with forward := rest, sending := some c, forwardRun := min 7 (ps.forwardRun + 1) }) ∧
      (ps.cyclePlace = none → ps.forward = [] ∨ ps.forwardRun = 7 →
        (∀ c rest, ps.response = c :: rest →
          becomes { ps with response := rest, sending := some c, forwardRun := 0 }) ∧
        (∀ c rest, ps.response = [] → ps.derived = c :: rest →
          becomes { ps with derived := rest, sending := some c, forwardRun := 0 }) ∧
        (∀ c rest, ps.response = [] → ps.derived = [] → ps.notice = c :: rest →
          becomes { ps with notice := rest, sending := some c, forwardRun := 0 })) ∧
      (ps.cyclePlace = none → ps.forward = [] → ps.response = [] → ps.derived = [] → ps.notice = [] →
        becomes { ps with sending := some fill, forwardRun := 0 })) ∧
    (p = .trunk → ∀ scope,
      (s.engine.state = .resetPending scope .sending →
        ∃ t, exec (.transmitterPick p) s = .next t ∧ t.engine.state = .resetPending scope .gone) ∧
      (s.engine.state = .resetPending scope .gone →
        ∃ t, exec (.transmitterPick p) s = .next t ∧ t.engine.state = .resetPending scope .gone) ∧
      (s.engine.state = .resetPending scope .queued →
        ∃ t, exec (.transmitterPick p) s = .next t ∧
          t.engine.state = .resetPending scope (if ps.response ≠ [] ∧ t.trunk.response = [] then .sending else .queued)))

/-! ### Cycle timing -/

/-- R103, R106, R107, R109, R110: an expiry of the interval timer reloads it and acts by the cycle state; the
one that brings the missed count to W enters HOLDOVER. That the command is an expiry whatever the two counters hold
(log entry 6), and that ENTER_HOLDOVER is the whole expiry (log entry 5), are the model's. -/
def Obligations.ExpiriesActByTheCycleState : Prop :=
  ∀ s : State, s.resetLine = false →
    let c := s.cycle
    let missed := min 255 (c.missed + 1)
    let enters := c.state = .following ∧ c.established = true ∧ 0 < c.watchLimit ∧ c.watchLimit ≤ missed
    let reloaded := { c with prescaleCount := c.divide, periodCount := c.period }
    let cell := fun flags : BitVec 4 => withCheck ⟨1, flags, s.engine.station, 0, 0, 0, 0, c.count + 1, 0⟩
    let started := { s.bank with inbox := s.bank.inbox ++ [c.count + 1] }
    (c.state = .following → c.established = false → exec .intervalTimerExpiry s = .next { s with cycle := reloaded }) ∧
    (c.state = .following → c.established = true → ¬enters →
      exec .intervalTimerExpiry s = .next { s with cycle := { reloaded with missed := missed } }) ∧
    (enters →
      exec .intervalTimerExpiry s = .next
        { s with
          cycle := { reloaded with missed := missed, state := .holdover, count := c.count + 1 },
          bank := started, field := cyclePlacedFor (cell 1) s.field,
          engine := { s.engine with indicators := s.engine.indicators ||| 0x040 } } ∧
      exec .enterHoldover s = .next
        { s with
          cycle := { reloaded with missed := missed, state := .holdover, count := c.count + 1 },
          bank := started, field := cyclePlacedFor (cell 1) s.field,
          engine := { s.engine with indicators := s.engine.indicators ||| 0x040 } }) ∧
    (c.state = .holdover → exec .intervalTimerExpiry s = .next
      { s with
        cycle := { reloaded with missed := missed, count := c.count + 1, established := true },
        bank := started, field := cyclePlacedFor (cell 1) s.field }) ∧
    (c.state = .originating → exec .intervalTimerExpiry s = .next
      { s with
        cycle := { reloaded with count := c.count + 1, established := true },
        bank := started, trunk := cyclePlacedFor (cell 0) s.trunk, field := cyclePlacedFor (cell 0) s.field })

/-- R103: from a reload, the ticks lower the two counters and nothing else, and the tick numbered (D+1)×T is the
expiry, which the model also gives as the command INTERVAL_TIMER_EXPIRY (log entry 6). -/
def Obligations.ExpiryComesAtTheLastTickOfTheInterval : Prop :=
  ∀ s : State, s.resetLine = false → s.cycle.prescaleCount = s.cycle.divide → s.cycle.periodCount = s.cycle.period →
    1 ≤ s.cycle.period →
    (∀ n, n < (s.cycle.divide + 1) * s.cycle.period →
      repeated .referenceClockTick n s = .next { s with cycle := { s.cycle with
        prescaleCount := s.cycle.divide - n % (s.cycle.divide + 1),
        periodCount := s.cycle.period - n / (s.cycle.divide + 1) } }) ∧
    repeated .referenceClockTick ((s.cycle.divide + 1) * s.cycle.period) s = exec .intervalTimerExpiry s

/-! ### The tap unit -/

/-- R15, R16, R18, R21: the tap unit takes a cycle start: taps whose entry a swap changes start again, every other
enabled tap is aged and goes STALE at its limit; GOING_STALE is the taking at which a tap does so (log entry 5). -/
def Obligations.CycleStartsAgeTapsAndMakeThemStale : Prop :=
  ∀ (s : State) (c : CycleStart) (rest : List CycleStart), s.resetLine = false → s.tap.inbox = c :: rest →
    let old := s.tap.entries
    let new := match c.swap with
      | none => old
      | some w => w.bank.taps
    let stale := fun t : TapNo =>
      (new.get t).enabled = true ∧ (new.get t).stale ≠ 0 ∧
        ((s.tap.records.get t).cond = .live ∨ (s.tap.records.get t).cond = .suspect) ∧
        (new.get t).stale ≤ min 255 ((s.tap.records.get t).age + 1)
    ∃ (recs : Tab 192 TapRecord) (reps : List TapReport) (after : State),
      after = { s with
        tap := ⟨new, recs, rest⟩, xc := { s.xc with reports := s.xc.reports ++ reps, unseen := 0 },
        notice := { s.notice with tapReports := s.notice.tapReports ++ reps } } ∧
      exec .tapCycleStart s = .next after ∧
      (∀ t, old.get t = new.get t → stale t → exec (.goingStale t.val) s = .next after) ∧
      (∀ t, let r := s.tap.records.get t
        (old.get t ≠ new.get t →
          recs.get t = ⟨.pending, (new.get t).preset, (new.get t).preset, 0, 0, 0, 0, 0⟩) ∧
        (old.get t = new.get t → (new.get t).enabled = false → recs.get t = r) ∧
        (old.get t = new.get t → stale t → recs.get t = { r with
          spacing := r.spacing - 1, age := min 255 (r.age + 1), cond := .stale, run := 0,
          candidate := r.qualified }) ∧
        (old.get t = new.get t → (new.get t).enabled = true → ¬stale t →
          recs.get t = { r with spacing := r.spacing - 1, age := min 255 (r.age + 1) })) ∧
      (∀ t x y b, (⟨t, x, y, b⟩ : TapReport) ∈ reps ↔ old.get t = new.get t ∧ stale t ∧
        x = ⟨(s.tap.records.get t).qualified, (s.tap.records.get t).cond⟩ ∧
        y = ⟨(s.tap.records.get t).qualified, .stale⟩ ∧ b = false) ∧
      (reps.map (·.tap)).Pairwise (· < ·)

/-! ### The cross-connect -/

/-- R19, R38, R39: the cross-connect takes a tap report: every point that lists the tap is recomputed, and every
change of a point is reported. It finds the taps as they stand, but that among the waiting reports of the newest cell it
may find the taps of the last `u` as they stood before the cell: how many is left open (log entry 23). -/
def Obligations.TapReportsRecomputeTheirPoints : Prop :=
  ∀ (s : State) (rep : TapReport) (rest : List TapReport), s.resetLine = false → s.xc.reports = rep :: rest →
    let u := min (min s.xc.unseen rest.length) (Config.samplesUnseen s.drawn)
    let late := rest.drop (rest.length - u)
    ∃ (seen : Tab 192 TapRecord) (recs : Tab 128 PointRecord) (reps : List PointReport),
      exec .xcTapReport s = .next (toldOfPoints { s with
        drawn := s.drawn + 1, xc := { s.xc with reports := rest, records := recs, unseen := u } } 0 reps) ∧
      (∀ t, seen.get t = match late.find? fun x => x.tap == t with
        | some x => { s.tap.records.get t with qualified := x.before.value, cond := x.before.cond }
        | none => s.tap.records.get t) ∧
      (∀ p, rep.tap ∉ (s.xc.entries.get p).sources → recs.get p = s.xc.records.get p) ∧
      (∀ p, rep.tap ∈ (s.xc.entries.get p).sources →
        recs.get p = recomputed { s with tap := { s.tap with records := seen } } (s.xc.entries.get p)
          (s.xc.forces.get p) (s.xc.records.get p)) ∧
      ReportsOf (fun p => ⟨(s.xc.records.get p).published, (s.xc.records.get p).quality, (s.xc.records.get p).cond,
          (s.xc.forces.get p).isSome⟩)
        (fun p => ⟨(recs.get p).published, (recs.get p).quality, (recs.get p).cond, (s.xc.forces.get p).isSome⟩) reps

/-- R28, R33, R35, R36, R39, R45: which sources a recomputation finds usable, and what it makes of a point's record.
While the cross-connect has taken more cycle starts than the tap unit, a tap whose entry some swap among those alters
is unusable, whatever its record says. That this holds from the cross-connect's taking of the swap on, its work on the
old entries included, is the model's reading (log entry 13). -/
def Obligations.PointsFollowTheConditionMachine : Prop :=
  ∀ (s : State) (e : BindEntry) (f : Option ForceRecord) (r : PointRecord),
    let res := combineResult s e
    let after := recomputed s e f r
    let ahead := s.tap.inbox.take (s.tap.inbox.length - s.xc.inbox.length)
    let usable := fun t : TapNo => (s.tap.records.get t).cond = .live ∧
      ∀ c ∈ ahead, ∀ w, c.swap = some w → w.bank.taps.get t = s.tap.entries.get t
    (∃ source : TapNo → Option Bool, res = combine e.fn (e.sources.map source) ∧
      ∀ t, (usable t → source t = some (s.tap.records.get t).qualified) ∧ (¬usable t → source t = none)) ∧
    (∀ v c, res = some (v, c) →
      after.cond = c ∧ after.combined = v ∧ after.lastGood = v ∧ after.hold = 0 ∧ (c = .normal ∨ c = .degraded)) ∧
    (res = none → after.lastGood = r.lastGood ∧
      (r.cond = .normal ∨ r.cond = .degraded →
        (0 < e.hold → after.cond = .holding ∧ after.combined = r.lastGood ∧ after.hold = e.hold) ∧
        (e.hold = 0 → after.cond = .failsafe ∧ after.combined = e.failSafe ∧ after.hold = 0)) ∧
      (r.cond = .holding ∨ r.cond = .failsafe →
        after.cond = r.cond ∧ after.combined = r.combined ∧ after.hold = r.hold)) ∧
    after.published = (match f with
      | some x => x.value
      | none =>
        if after.cond = .failsafe then e.failSafe else if after.cond = .holding then after.lastGood
        else after.combined) ∧
    (after.quality = true ↔ f = none ∧ (after.cond = .normal ∨ after.cond = .degraded)) ∧
    after.changes = if after.published = r.published then r.changes else r.changes + 1

/-- R27, R29, R30, R31, R32: the combine functions over the sources, an absent value being an unusable source; the
order of the sources does not matter. -/
def Obligations.CombineFunctionsVoteOverUsableSources : Prop :=
  ∀ sources : List (Option Bool), sources.length ≤ 3 →
    let usable := sources.filterMap id
    (∀ fn, combine fn [] = none) ∧
    (∀ v, combine .follow [some v] = some (v, .normal)) ∧ combine .follow [none] = none ∧
    (usable ≠ [] → combine .any sources = some (decide (true ∈ usable),
      if usable.length = sources.length then .normal else .degraded)) ∧
    (usable = [] → combine .any sources = none) ∧
    (sources ≠ [] → usable.length = sources.length →
      combine .all sources = some (decide (false ∉ usable), .normal)) ∧
    (usable.length < sources.length → combine .all sources = none) ∧
    (sources.length = 3 →
      (usable.length = 3 → combine .vote sources = some (decide (2 ≤ usable.count true), .normal)) ∧
      (∀ a b, usable = [a, b] → combine .vote sources = if a = b then some (a, .degraded) else none) ∧
      (usable.length ≤ 1 → combine .vote sources = none)) ∧
    ∀ fn sources', sources.Perm sources' → combine fn sources = combine fn sources'

/-- R37, R39, R43: the cross-connect takes a cycle start without a swap: holds are counted down and expire, force
durations are counted down and run out, and each point is compared once. HOLD_EXPIRY and FORCE_EXPIRY are the taking
at which that of their point does (log entry 5). -/
def Obligations.CycleStartsCountHoldsAndForces : Prop :=
  ∀ (s : State) (c : CycleStart) (rest : List CycleStart), s.resetLine = false → s.xc.inbox = c :: rest →
    c.swap = none →
    let u := { s with xc := { s.xc with inbox := rest, unseen := 0 } }
    let r := fun p => s.xc.records.get p
    let low := fun p => { r p with hold := (r p).hold - 1 }
    let expires := fun p => (r p).cond = .holding ∧ (r p).hold ≤ 1
    let runsOut := fun p => ∃ x d, s.xc.forces.get p = some x ∧ x.remaining = some d ∧ d ≤ 1
    ∃ (recs : Tab 128 PointRecord) (forces : Tab 128 (Option ForceRecord)) (reps : List PointReport) (after : State),
      after = toldOfPoints { u with xc := { u.xc with records := recs, forces := forces } } 0 reps ∧
      exec .xcCycleStart s = .next after ∧
      (∀ p, expires p → exec (.holdExpiry p.val) s = .next after) ∧
      (∀ p, runsOut p → exec (.forceExpiry p.val) s = .next after) ∧
      (∀ p, (runsOut p → forces.get p = none) ∧
        (¬runsOut p → forces.get p = (s.xc.forces.get p).map fun x =>
          ⟨x.value, x.owner, x.remaining.map fun d => d - 1⟩)) ∧
      (∀ p,
        ((r p).cond ≠ .holding → ¬runsOut p → recs.get p = r p) ∧
        ((r p).cond ≠ .holding → runsOut p → recs.get p = recomputed u (s.xc.entries.get p) none (r p)) ∧
        ((r p).cond = .holding → 1 < (r p).hold → ¬runsOut p → recs.get p = low p) ∧
        ((r p).cond = .holding → 1 < (r p).hold → runsOut p →
          recs.get p = recomputed u (s.xc.entries.get p) none (low p)) ∧
        (expires p → combineResult u (s.xc.entries.get p) ≠ none →
          recs.get p = recomputed u (s.xc.entries.get p) (forces.get p) (low p)) ∧
        (expires p → combineResult u (s.xc.entries.get p) = none →
          let v := match forces.get p with
            | some x => x.value
            | none => (s.xc.entries.get p).failSafe
          recs.get p = { r p with
            cond := .failsafe, combined := (s.xc.entries.get p).failSafe, hold := 0, published := v, quality := false,
            changes := if v = (r p).published then (r p).changes else (r p).changes + 1 })) ∧
      ReportsOf (fun p => ⟨(r p).published, (r p).quality, (r p).cond, (s.xc.forces.get p).isSome⟩)
        (fun p => ⟨(recs.get p).published, (recs.get p).quality, (recs.get p).cond, (forces.get p).isSome⟩) reps

/-- R45, R46, R69: at a cycle start that takes a swap the cross-connect does its work on the old entries first; then
a point whose entry is unchanged is recomputed, and one whose entry changed starts again from its initial state with
its force kept and its change count 0. The model's readings: the reports of the swap wait, by `behind`, for the notice
unit's own carry-over (log entry 11); the work on the old entries finds the taps that the swap changes unusable (log
entry 13); HOLD_EXPIRY and FORCE_EXPIRY are the whole taking (log entry 5). That a hold of 1 begun by a report of the
same cycle start ends in this work, by R37, and that a changed entry whose source goes STALE at this cycle start ends by
R34 to R36 as the order has it, both against the last sentence of R45, are the model's choices (log entry 24). -/
def Obligations.SwapsCarryPointsOver : Prop :=
  ∀ (s worked : State) (n : Word16) (w : Swap) (rest : List CycleStart), s.resetLine = false →
    s.xc.inbox = ⟨n, some w⟩ :: rest →
    exec .xcCycleStart { s with xc := { s.xc with inbox := ⟨n, none⟩ :: rest } } = .next worked →
    let old := fun p => worked.xc.entries.get p
    let new := fun p => w.bank.binds.get p
    let r := fun p => worked.xc.records.get p
    let forced := fun p => (worked.xc.forces.get p).isSome
    ∃ (recs : Tab 128 PointRecord) (reps : List PointReport) (after : State),
      after = toldOfPoints { worked with xc := { worked.xc with entries := w.bank.binds, records := recs } }
        (s.notice.inbox.length - rest.length) reps ∧
      exec .xcCycleStart s = .next after ∧
      (∀ p, (s.xc.records.get p).cond = .holding → (s.xc.records.get p).hold ≤ 1 →
        exec (.holdExpiry p.val) s = .next after) ∧
      (∀ p x d, s.xc.forces.get p = some x → x.remaining = some d → d ≤ 1 →
        exec (.forceExpiry p.val) s = .next after) ∧
      (∀ p,
        (old p = new p → recs.get p = recomputed worked (new p) (worked.xc.forces.get p) (r p)) ∧
        (old p ≠ new p → recs.get p = { recomputed worked (new p) (worked.xc.forces.get p)
          ⟨.failsafe, (new p).failSafe, (new p).failSafe, 0, (new p).failSafe, false, 0⟩ with changes := 0 })) ∧
      ReportsOf (fun p => ⟨(r p).published, (r p).quality, (r p).cond, forced p⟩)
        (fun p => ⟨(recs.get p).published, (recs.get p).quality, (recs.get p).cond, forced p⟩) reps

/-! ### The raising side of the notice unit -/

/-- R39, R52, R69: a report is offered to the enabled watches on its subject, in ascending watch number, and the table
of R52 says for which triggers it is an occurrence. A point report that a swap made waits for the notice unit's own
carry-over; that the reports behind it on its own point wait with it, and those on other points do not, is the model's
reading (log entry 11). Whether an occurrence has the value, condition and forced mark the report carries, by R52, or
those its subject has when the report is taken, by R20 and R33, is left open (log entry 25): the statement gives both. -/
def Obligations.ReportsAreOfferedToTheirWatches : Prop :=
  ∀ s : State, s.resetLine = false →
    let waits := fun l : List WaitingReport => ∀ before r after, l = before ++ r :: after →
      0 < r.behind ∨ r.report.point ∈ before.map (·.report.point)
    (∀ r rest, s.notice.tapReports = r :: rest →
      exec .watchTapReport s = .next ((List.finRange 48).foldl (fun t w =>
        if (s.notice.entries.get w).enabled = true ∧ (s.notice.entries.get w).subject = .tap r.tap then
          offerToWatch w (s.notice.entries.get w) (tapOccurs (s.notice.entries.get w).trigger r) r.after.value
            (if Config.noticeReadsSubject = true then
              ⟨(s.tap.records.get r.tap).qualified, .tap (s.tap.records.get r.tap).cond, false⟩
            else ⟨r.after.value, .tap r.after.cond, false⟩) t
        else t) { s with notice := { s.notice with tapReports := rest } })) ∧
    (∀ l r l', s.notice.pointReports = l ++ ⟨r, 0⟩ :: l' → waits l → r.point ∉ l.map (·.report.point) →
      exec .watchPointReport s = .next ((List.finRange 48).foldl (fun t w =>
        if (s.notice.entries.get w).enabled = true ∧ (s.notice.entries.get w).subject = .point r.point then
          offerToWatch w (s.notice.entries.get w) (pointOccurs (s.notice.entries.get w).trigger r) r.after.value
            (if Config.noticeReadsSubject = true then ⟨(s.xc.records.get r.point).published,
              .point (s.xc.records.get r.point).cond, (s.xc.forces.get r.point).isSome⟩
            else ⟨r.after.value, .point r.after.cond, r.after.forced⟩) t
        else t) { s with notice := { s.notice with pointReports := l ++ l' } })) ∧
    (waits s.notice.pointReports → exec .watchPointReport s = .next s) ∧
    (∀ (tr : Trigger) (r : TapReport), tapOccurs tr r = true ↔
      (tr = .rise ∧ r.transition = true ∧ r.before.value = false ∧ r.after.value = true) ∨
      (tr = .fall ∧ r.transition = true ∧ r.before.value = true ∧ r.after.value = false) ∨
      (tr = .change ∧ r.transition = true) ∨ (tr = .condition ∧ r.before.cond ≠ r.after.cond)) ∧
    ∀ (tr : Trigger) (r : PointReport), pointOccurs tr r = true ↔
      (tr = .rise ∧ r.before.value = false ∧ r.after.value = true) ∨
      (tr = .fall ∧ r.before.value = true ∧ r.after.value = false) ∨
      (tr = .change ∧ r.before.value ≠ r.after.value) ∨
      (tr = .condition ∧ (r.before.cond ≠ r.after.cond ∨ r.before.forced ≠ r.after.forced))

/-- R55, R56, R57, R58, R62: what an occurrence does to its watch: it coalesces into the queued notice, is absorbed by
the holdoff, or raises a notice; a report that finds a HIGH or LOW watch off its level withdraws its notice. That the
level test reads the value the report carries, and not the subject, is the model's reading (log entry 14). -/
def Obligations.OccurrencesCoalesceAreAbsorbedOrRaise : Prop :=
  ∀ (w : WatchNo) (e : WatchEntry) (v : Bool) (o : Occurrence) (s : State), (s.notice.queue.map (·.watch)).Nodup →
    let r := s.notice.records.get w
    let n := s.cycle.count
    (r.queued = true → offerToWatch w e true v o s = { s with notice := { s.notice with
      queue := s.notice.queue.map fun m => if m.watch = w then
        { m with count := min 255 (m.count + 1), last := n, value := o.value, cond := o.cond, forced := o.forced }
        else m } }) ∧
    (r.queued = false → 0 < r.holdoff → offerToWatch w e true v o s = { s with notice := { s.notice with
      records := s.notice.records.set w { r with absorbed := r.absorbed + 1 },
      absorbedTotal := s.notice.absorbedTotal + 1 } }) ∧
    (r.queued = false → r.holdoff = 0 → offerToWatch w e true v o s =
      offerNotice (raisedNotice s w o n) { s with notice := { s.notice with raised := s.notice.raised + 1 } }) ∧
    (OffItsLevel e.trigger v → offerToWatch w e false v o s = withdrawnFrom s w) ∧
    (¬OffItsLevel e.trigger v → offerToWatch w e false v o s = s)

/-- R59, R60, R66: a raised notice stands behind every queued notice of its own class or a more urgent one; at a full
queue it displaces the last notice if that is of a less urgent class, and is dropped otherwise. -/
def Obligations.RaisedNoticesEnterTheQueueByClass : Prop :=
  ∀ (n : Notice) (s : State), s.notice.queue.Pairwise (fun a b => a.cls ≤ b.cls) →
    let placed := fun q : List Notice => q.filter (fun m => m.cls ≤ n.cls) ++ n :: q.filter (fun m => n.cls < m.cls)
    let holdoff := (s.notice.entries.get n.watch).holdoff
    (s.notice.queue.length < 24 → offerNotice n s = { s with notice := { s.notice with
      queue := placed s.notice.queue,
      records := s.notice.records.set n.watch { s.notice.records.get n.watch with queued := true, holdoff := holdoff } } }) ∧
    (24 ≤ s.notice.queue.length →
      (∀ q m, s.notice.queue = q ++ [m] → n.cls < m.cls → m.watch ≠ n.watch → offerNotice n s =
        { s with
          notice := { s.notice with
            queue := placed q,
            records := (s.notice.records.set m.watch { s.notice.records.get m.watch with queued := false }).set n.watch
              { s.notice.records.get n.watch with queued := true, holdoff := holdoff },
            lost := s.notice.lost + 1 },
          engine := { s.engine with indicators := s.engine.indicators ||| 0x001 } }) ∧
      ((∀ m ∈ s.notice.queue, m.cls ≤ n.cls) → offerNotice n s =
        { s with
          notice := { s.notice with lost := s.notice.lost + 1 },
          engine := { s.engine with indicators := s.engine.indicators ||| 0x001 } }))

/-- R53, R54: the raising side takes a cycle start without a swap: holdoffs are lowered first, and then each enabled
HIGH or LOW watch, in ascending watch number, withdraws off its level and raises on it. That the reports of a swap
waiting for it come one cycle start nearer is the model's bookkeeping (log entry 11). -/
def Obligations.CycleStartsLowerHoldoffsAndEvaluateLevels : Prop :=
  (∀ (s : State) (n : Word16) (rest : List CycleStart), s.resetLine = false → s.notice.inbox = ⟨n, none⟩ :: rest →
    exec .noticeCycleStart s = .next ((List.finRange 48).foldl (fun t w => evaluateLevel n w t)
      { s with notice := { s.notice with
        inbox := rest,
        pointReports := s.notice.pointReports.map fun x => ⟨x.report, x.behind - 1⟩,
        records := Tab.ofFn fun w =>
          if (s.notice.entries.get w).enabled = true then
            { s.notice.records.get w with holdoff := (s.notice.records.get w).holdoff - 1 }
          else s.notice.records.get w } })) ∧
  ∀ (n : Word16) (w : WatchNo) (s : State),
    (s.notice.queue.map (·.watch)).Nodup →
    ((s.notice.records.get w).queued = true ↔ w ∈ s.notice.queue.map (·.watch)) →
    let e := s.notice.entries.get w
    let r := s.notice.records.get w
    let o : Occurrence := match e.subject with
      | .tap t => ⟨(s.tap.records.get t).qualified, .tap (s.tap.records.get t).cond, false⟩
      | .point p => ⟨(s.xc.records.get p).published, .point (s.xc.records.get p).cond, (s.xc.forces.get p).isSome⟩
    let level := e.enabled = true ∧ (e.trigger = .high ∨ e.trigger = .low)
    (level → OffItsLevel e.trigger o.value → evaluateLevel n w s = withdrawnFrom s w) ∧
    (level → ¬OffItsLevel e.trigger o.value → r.queued = false → r.holdoff = 0 →
      evaluateLevel n w s = offerNotice (raisedNotice s w o n)
        { s with notice := { s.notice with raised := s.notice.raised + 1 } }) ∧
    (level → ¬OffItsLevel e.trigger o.value → r.queued = true ∨ 0 < r.holdoff → evaluateLevel n w s = s) ∧
    (¬level → evaluateLevel n w s = s)

/-- R68: at a cycle start that takes a swap the raising side does its work on the old entries first; then every watch
whose entry changed has its queued notice withdrawn and starts again. -/
def Obligations.SwapsWithdrawTheNoticesOfChangedWatches : Prop :=
  ∀ (s u : State) (n : Word16) (w : Swap) (rest : List CycleStart), s.resetLine = false → NoticesInv s →
    s.notice.inbox = ⟨n, some w⟩ :: rest →
    exec .noticeCycleStart { s with notice := { s.notice with inbox := ⟨n, none⟩ :: rest } } = .next u →
    let kept := fun x : WatchNo => s.notice.entries.get x = w.bank.watches.get x
    exec .noticeCycleStart s = .next { u with notice := { u.notice with
      entries := w.bank.watches,
      queue := u.notice.queue.filter fun m => kept m.watch,
      records := Tab.ofFn fun x => if kept x then u.notice.records.get x else ⟨0, false, 0⟩,
      withdrawn := u.notice.withdrawn + BitVec.ofNat 32 (u.notice.queue.countP fun m => ¬kept m.watch) } }

/-! ### The delivery side -/

/-- R76, R77, R79, R80, R81, R85: the delivery side takes a cycle start: retries first, then new emissions up to the
budget, each of the first queued notice whose gate is OPEN, while there is room in the in-flight list and in the trunk
NOTICE queue. RETRANSMISSION and NOTICE_EXPIRY are the taking at which their record is due (log entry 5). -/
def Obligations.DeliveryRetriesFirstAndEmitsToTheBudget : Prop :=
  (∀ (s : State) (c : CycleStart) (rest : List CycleStart), s.resetLine = false → s.delivery.inbox = c :: rest →
    ∃ t, t = emitUpTo s.delivery.budget (retries { s with delivery := { s.delivery with inbox := rest } }) ∧
      exec .deliveryCycleStart s = .next t ∧
      ∀ f ∈ s.delivery.inFlight, f.countdown ≤ 1 →
        (0 < f.attemptsLeft → exec (.retransmission f.sequence) s = .next t) ∧
        (f.attemptsLeft = 0 → exec (.noticeExpiry f.sequence) s = .next t)) ∧
  ∀ (k : Nat) (s : State),
    let open' := fun n : Notice => s.notice.gates.get n.cls = true
    let room := s.delivery.inFlight.length < 8 ∧ s.trunk.notice.length < 8
    emitUpTo 0 s = s ∧
    ((∀ n ∈ s.notice.queue, ¬open' n) → emitUpTo k s = s) ∧ (¬room → emitUpTo k s = s) ∧
    ∀ l n l', s.notice.queue = l ++ n :: l' → (∀ m ∈ l, ¬open' m) → open' n → room →
      let f : FlightRecord := ⟨n, nextSequence s, s.delivery.retryInterval, s.delivery.attempts, 0⟩
      emitUpTo (k + 1) s = emitUpTo k { s with
        notice := { s.notice with
          queue := l ++ l',
          records := s.notice.records.set n.watch { s.notice.records.get n.watch with queued := false } },
        delivery := { s.delivery with inFlight := s.delivery.inFlight ++ [f], sequence := nextSequence s + 1 },
        trunk := noticePlacedFor (makeNoticeCell s.engine.station (s.engine.indicators ≠ 0) false s.cycle.count f)
          s.trunk }

/-- R77, R78, R81: the retries of a cycle start, record by record in list order: a record is lowered, resent, postponed
when the trunk NOTICE queue is full, or expires. -/
def Obligations.RetriesLowerResendPostponeOrExpire : Prop :=
  (∀ s : State, retries s = { (retryAll s.delivery.inFlight s).2 with
    delivery := { s.delivery with inFlight := (retryAll s.delivery.inFlight s).1 } }) ∧
  ∀ (f : FlightRecord) (l : List FlightRecord) (s : State),
    let lowered := { f with countdown := f.countdown - 1 }
    let again : FlightRecord :=
      ⟨f.notice, f.sequence, s.delivery.retryInterval, f.attemptsLeft - 1, f.attempt + 1⟩
    let cell := makeNoticeCell s.engine.station (s.engine.indicators ≠ 0) true s.cycle.count again
    let sent := { s with trunk := noticePlacedFor cell s.trunk }
    let expired := { s with
      notice := { s.notice with lost := s.notice.lost + 1 },
      engine := { s.engine with indicators := s.engine.indicators ||| 0x002 } }
    retryAll [] s = ([], s) ∧
    (1 < f.countdown → retryAll (f :: l) s = (lowered :: (retryAll l s).1, (retryAll l s).2)) ∧
    (f.countdown ≤ 1 →
      (0 < f.attemptsLeft → s.trunk.notice.length < 8 →
        retryAll (f :: l) s = (again :: (retryAll l sent).1, (retryAll l sent).2)) ∧
      (0 < f.attemptsLeft → 8 ≤ s.trunk.notice.length →
        retryAll (f :: l) s = (lowered :: (retryAll l s).1, (retryAll l s).2)) ∧
      (f.attemptsLeft = 0 → retryAll (f :: l) s = retryAll l expired))

/-- R76: the sequence number given is the first from the counter on that no record in flight holds. -/
def Obligations.NextSequenceNumberIsTheFirstFree : Prop :=
  ∀ s : State, s.delivery.inFlight.length < 256 →
    let used := s.delivery.inFlight.map (·.sequence)
    nextSequence s ∉ used ∧ ∃ k : Nat, k ≤ s.delivery.inFlight.length ∧
      nextSequence s = s.delivery.sequence + BitVec.ofNat 8 k ∧
      ∀ j < k, s.delivery.sequence + BitVec.ofNat 8 j ∈ used

/-! ### The publisher -/

/-- R88, R91, R92, R93, R94, R97: a point report that moves the published value or quality marks its group; a cycle
start lowers each group's countdown, emits the groups that are due, and then takes over a swap's records. PERIOD_DUE is
the taking at which its group's countdown reaches 0 (log entry 5). -/
def Obligations.GroupsAreMarkedAndEmittedWhenDue : Prop :=
  (∀ (s : State) (r : PointReport) (rest : List PointReport), s.resetLine = false → s.publisher.reports = r :: rest →
    ∃ recs : Tab 4 PublishRuntime,
      exec .publisherPointReport s = .next { s with publisher := { s.publisher with reports := rest, records := recs } } ∧
      ∀ g, recs.get g =
        if g.val = r.point.val / 32 ∧ (r.before.value ≠ r.after.value ∨ r.before.quality ≠ r.after.quality) then
          ⟨(s.publisher.records.get g).countdown, true⟩
        else s.publisher.records.get g) ∧
  (∀ (s : State) (c : CycleStart) (rest : List CycleStart), s.resetLine = false → s.publisher.inbox = c :: rest →
    let t := [0, 1, 2, 3].foldl (fun t g => groupCycle c.count g t)
      { s with publisher := { s.publisher with inbox := rest } }
    let after := match c.swap with
      | none => t
      | some w => { t with publisher := { t.publisher with
          entries := w.bank.publish, generation := w.generation,
          records := Tab.ofFn fun g =>
            if s.publisher.entries.get g = w.bank.publish.get g then t.publisher.records.get g
            else ⟨(w.bank.publish.get g).period, true⟩ } }
    exec .publisherCycleStart s = .next after ∧
    ∀ g, (s.publisher.entries.get g).direction ≠ .none → 0 < (s.publisher.entries.get g).period →
      (s.publisher.records.get g).countdown ≤ 1 → exec (.periodDue g.val) s = .next after) ∧
  ∀ (n : Word16) (g : GroupNo) (s : State),
    let e := s.publisher.entries.get g
    let r := s.publisher.records.get g
    let due := (0 < e.period ∧ r.countdown ≤ 1) ∨ (e.onChange = true ∧ r.changed = true)
    let cell := groupCell s g n
    (e.direction = .none → groupCycle n g s = s) ∧
    (e.direction ≠ .none → ¬due → groupCycle n g s = { s with publisher := { s.publisher with
      records := s.publisher.records.set g { r with countdown := r.countdown - 1 } } }) ∧
    (e.direction ≠ .none → due → ∃ recs : Tab 4 PublishRuntime,
      groupCycle n g s = { s with
        publisher := { s.publisher with records := recs },
        trunk := if e.direction = .up ∨ e.direction = .both then derivedPlacedFor cell s.trunk else s.trunk,
        field := if e.direction = .down ∨ e.direction = .both then derivedPlacedFor cell s.field else s.field } ∧
      recs.get g = ⟨e.period, false⟩ ∧ ∀ g', g' ≠ g → recs.get g' = s.publisher.records.get g')

/-! ### The bank unit -/

/-- R139, R148, R149, R150, R151: the bank unit takes a cycle start before any other block and passes it on: a lease runs
down and expires, a target is passed, and an ARMED session's swap is taken at its target. LEASE_EXPIRY is the taking
that brings the lease to 0 (log entry 5). -/
def Obligations.BankCycleStartsEndLeasesAndTakeSwaps : Prop :=
  ∀ (s : State) (n : Word16) (rest : List Word16), s.resetLine = false → s.bank.inbox = n :: rest →
    let b := { s.bank with inbox := rest }
    let idle := fun o : SessionOutcome => { b with
      shadow := none, state := .idle, owner := none, lease := 0, leaseRemaining := 0, target := .none,
      targetPassed := false, lastOutcome := o, firstError := none }
    let late := { b with
      state := .editing, target := .none, targetPassed := false, leaseRemaining := b.lease, lastOutcome := .late,
      firstError := none }
    let kept := fun b' : BankUnit => exec .bankCycleStart s = .next (passedOn { s with bank := b' } ⟨n, none⟩)
    (b.state = .idle → kept b) ∧
    (b.state = .editing → 1 < b.leaseRemaining → kept { b with leaseRemaining := b.leaseRemaining - 1 }) ∧
    (b.state = .editing → b.leaseRemaining ≤ 1 → kept (idle .leaseExpired) ∧
      exec .leaseExpiry s = .next (passedOn { s with bank := idle .leaseExpired } ⟨n, none⟩)) ∧
    (b.state = .validating →
      (∀ a, b.target = .atCount a → a = n ∨ 32768 ≤ (a - n).toNat → kept { b with targetPassed := true }) ∧
      ((∀ a, b.target = .atCount a → a ≠ n ∧ (a - n).toNat < 32768) → kept b)) ∧
    (b.state = .armed →
      (∀ shadow, b.shadow = some shadow → b.target = .next ∨ b.target = .atCount n →
        exec .bankCycleStart s = .next (passedOn
          { s with bank := { idle .committed with active := shadow, generation := b.generation + 1 } }
          ⟨n, some ⟨shadow, b.generation + 1⟩⟩)) ∧
      (∀ a, b.target = .atCount a → 32768 ≤ (a - n).toNat → kept late) ∧
      (∀ a, b.target = .atCount a → a ≠ n → (a - n).toNat < 32768 → kept b))

/-- R145, R147: a validation completion arms the session or sends it back to EDITING. That a completion outside
VALIDATING changes nothing (log entry 5), and that the verdict is on the shadow bank as it stands at the completion
(log entry 18), are the model's. -/
def Obligations.ValidationCompletionsArmRejectOrComeLate : Prop :=
  ∀ s : State, s.resetLine = false →
    let back := fun (o : SessionOutcome) (e : Option FirstError) => { s with bank := { s.bank with
      state := .editing, target := .none, targetPassed := false, leaseRemaining := s.bank.lease, lastOutcome := o,
      firstError := e } }
    (s.bank.state ≠ .validating → exec .validationCompletion s = .next s) ∧
    (∀ shadow, s.bank.state = .validating → s.bank.shadow = some shadow →
      (∀ e, validate s.engine.station shadow = some e →
        exec .validationCompletion s = .next (back .rejected (some e))) ∧
      (validate s.engine.station shadow = none →
        (s.bank.targetPassed = true → exec .validationCompletion s = .next (back .late none)) ∧
        (s.bank.targetPassed = false → exec .validationCompletion s = .next
          { s with bank := { s.bank with state := .armed } })))

/-- R146: validation finds no error exactly when no entry breaks a rule, and otherwise the first error. -/
def Obligations.ValidationReportsTheFirstBrokenRule : Prop :=
  ∀ (station : Byte) (b : Bank),
    (validate station b = none ↔ ∀ table index reason, ¬RuleBroken station b table index reason) ∧
    ∀ x : FirstError, validate station b = some x ↔
      RuleBroken station b x.table x.index x.reason ∧
      ∀ y : FirstError, RuleBroken station b y.table y.index y.reason → ¬FoundBefore y x

/-! ### Requests: the engine -/

/-- R161, R162, R163, R164, R165, R166, R177: an operation the part does not recognise is answered UNKNOWN-OP; ECHO,
READ-STATUS and READ-COUNTER are answered from what the part holds, and change nothing else. -/
def Obligations.EngineReadsAreAnsweredFromTheState : Prop :=
  ∀ (s : State) (r : Request),
    let page := fun (k : Nat) (data : List Byte) =>
      (r.arg 0).toNat = k → exec .readStatus s = .next (answered s r 0 data)
    let fill := fun ps : PortState => bit ps.cyclePlace.isSome ++ (0 : BitVec 2) ++ BitVec.ofNat 5 ps.forward.length
    let queued := fun c : ClassNo => BitVec.ofNat 8 (s.notice.queue.countP fun n => n.cls = c)
    let ports := [s.trunk.counters, s.field.counters].flatMap fun c =>
      [c.received, c.checkErrors, c.lateCells, c.misplaced, c.clashes, c.blocked, c.forwardDrops, c.derivedDrops,
        c.discardedDown, c.placeReplaced]
    let numbers := (List.range 10) ++ (List.range 10).map (· + 16) ++ [32, 33, 34, 35, 36, 40, 41, 48]
    let counters := numbers.zip (ports ++ [s.notice.raised, s.notice.acknowledged, s.notice.lost, s.notice.withdrawn,
      s.notice.absorbedTotal, s.cycle.skewCount, s.cycle.conflictCount, s.engine.requestDrops])
    (∀ op, (∀ o : Operation, o.code ≠ op) → Ready s r op → exec .unknownOp s = .next (answered s r 9 [])) ∧
    (Ready s r 0x01 → exec .echo s = .next
      (answered s r 0 [s.engine.station, r.arg 0, r.arg 1, r.arg 2, r.arg 3, r.arg 4])) ∧
    (Ready s r 0x02 →
      page 0 [s.engine.station,
        (0 : BitVec 2) ++ bankStateCode s.bank.state ++ (0 : BitVec 2) ++ cycleStateCode s.cycle.state,
        highByte s.cycle.count, lowByte s.cycle.count, highByte s.bank.generation, lowByte s.bank.generation] ∧
      page 1 [(0 : BitVec 7) ++ s.engine.indicators.extractLsb' 8 1, s.engine.indicators.extractLsb' 0 8,
        causeCode s.engine.resetCause, (0 : BitVec 6) ++ bit (s.field.line = .up) ++ bit (s.trunk.line = .up)] ∧
      page 2 [fill s.trunk, BitVec.ofNat 4 s.trunk.notice.length ++ BitVec.ofNat 4 s.trunk.derived.length,
        (0 : BitVec 1) ++ BitVec.ofNat 3 (s.engine.queue.length - 1) ++ (0 : BitVec 1)
          ++ BitVec.ofNat 3 s.trunk.response.length, fill s.field, BitVec.ofNat 8 s.field.derived.length] ∧
      page 3 [queued 0, queued 1, queued 2, queued 3, BitVec.ofNat 8 s.delivery.inFlight.length,
        s.delivery.sequence] ∧
      (4 ≤ (r.arg 0).toNat → exec .readStatus s = .next (answered s r 4 []))) ∧
    (Ready s r 0x03 →
      (∀ k w, (k, w) ∈ counters → (r.arg 0).toNat = k → exec .readCounter s = .next (answered s r 0
        [r.arg 0, w.extractLsb' 24 8, w.extractLsb' 16 8, w.extractLsb' 8 8, w.extractLsb' 0 8])) ∧
      ((r.arg 0).toNat ∉ numbers → exec .readCounter s = .next (answered s r 4 [])))

/-- R167, R168, R169, R170: CLEAR-INDICATORS clears the indicators that its mask names; RESET-PART makes the engine
RESET-PENDING, its reset to take effect when its response has gone. The stages queued and gone are the model's reading
(log entry 17). -/
def Obligations.IndicatorsAreClearedAndResetsMadePending : Prop :=
  ∀ (s : State) (r : Request),
    let mask := r.arg 0 ++ r.arg 1
    let pending := fun scope : Scope =>
      { answered s r 0 [r.arg 0] with engine := { (answered s r 0 [r.arg 0]).engine with
        state := .resetPending scope (if s.trunk.line = .up then .queued else .gone) } }
    (Ready s r 0x04 →
      (mask.toNat < 512 → ∃ t after, exec .clearIndicators s = .next t ∧
        (∀ i : Nat, i < 9 → after.getLsbD i = (s.engine.indicators.getLsbD i && !mask.getLsbD i)) ∧
        let a := answered s r 0 [(0 : BitVec 7) ++ s.engine.indicators.extractLsb' 8 1, s.engine.indicators.extractLsb' 0 8,
          (0 : BitVec 7) ++ after.extractLsb' 8 1, after.extractLsb' 0 8]
        t = { a with engine := { a.engine with indicators := after } }) ∧
      (512 ≤ mask.toNat → exec .clearIndicators s = .next (answered s r 4 []))) ∧
    (Ready s r 0x05 →
      (r.arg 0 = 0 → exec .resetPart s = .next (pending .runtime)) ∧
      (r.arg 0 = 1 → exec .resetPart s = .next (pending .full)) ∧
      (2 ≤ (r.arg 0).toNat → exec .resetPart s = .next (answered s r 4 [])))

/-- R111: SET-CYCLE sets the mode, D, T and W, reloads the interval timer and clears the missed count; the count and
the established mark stay. -/
def Obligations.SetCycleConfiguresCycleTiming : Prop :=
  ∀ (s : State) (r : Request), Ready s r 0x10 →
    let period := (r.arg 2 ++ r.arg 3).toNat
    let ok := (r.arg 0).toNat ≤ 1 ∧ period ≠ 0 ∧ (r.arg 4).toNat ≤ 15
    let mode := if r.arg 0 = 0 then CycleState.following else CycleState.originating
    let a := answered s r 0 [if r.arg 0 = 0 then 0 else 2, highByte s.cycle.count, lowByte s.cycle.count,
      BitVec.ofNat 8 s.cycle.missed]
    (ok → exec .setCycle s = .next { a with cycle := { s.cycle with
      state := mode, divide := (r.arg 1).toNat, period := period, watchLimit := (r.arg 4).toNat, missed := 0,
      prescaleCount := (r.arg 1).toNat, periodCount := period } }) ∧
    (¬ok → exec .setCycle s = .next (answered s r 4 []))

/-! ### Requests: the bank unit -/

/-- R136, R137, R138: OPEN-EDIT opens a session on a copy of the active bank, or renews its owner's lease. -/
def Obligations.OpenEditOpensOrRenewsASession : Prop :=
  ∀ (s : State) (r : Request), Ready s r 0x20 →
    let o : Byte := r.originator.setWidth 8
    let data := [1, o, r.arg 0, highByte s.bank.generation, lowByte s.bank.generation]
    (s.bank.state = .idle →
      (r.arg 0 ≠ 0 → exec .openEdit s = .next { answered s r 0 data with bank := { s.bank with
        shadow := some s.bank.active, state := .editing, owner := some r.originator, lease := (r.arg 0).toNat,
        leaseRemaining := (r.arg 0).toNat, target := .none } }) ∧
      (r.arg 0 = 0 → exec .openEdit s = .next (answered s r 4 [0, ownerByte s.bank.owner]))) ∧
    (s.bank.state = .editing → s.bank.owner = some r.originator →
      (r.arg 0 ≠ 0 → exec .openEdit s = .next { answered s r 0 data with bank := { s.bank with
        lease := (r.arg 0).toNat, leaseRemaining := (r.arg 0).toNat } }) ∧
      (r.arg 0 = 0 → exec .openEdit s = .next (answered s r 4 [1, o])))

/-- R136, R137, R140, R144, R152, R176: the refusals of the session requests, in the order R136 gives. -/
def Obligations.SessionRequestsAreRefusedInOrder : Prop :=
  ∀ (s : State) (r : Request),
    let owner := ownerByte s.bank.owner
    let other := s.bank.owner ≠ some r.originator
    (∀ c op, (c, op) ∈ [(Instr.writeTap, 0x21), (.writeBind, 0x22), (.writeWatch, 0x23), (.writePublish, 0x24),
        (.writePolicy, 0x25), (.commit, (0x27 : Byte))] → Ready s r op →
      (s.bank.state = .idle → exec c s = .next (answered s r 3 [0, owner])) ∧
      (s.bank.state = .validating → exec c s = .next (answered s r 1 [2, owner])) ∧
      (s.bank.state = .armed → exec c s = .next (answered s r 1 [3, owner])) ∧
      (s.bank.state = .editing → other → exec c s = .next (answered s r 2 [1, owner]))) ∧
    (Ready s r 0x20 →
      (s.bank.state = .validating → exec .openEdit s = .next (answered s r 1 [2, owner])) ∧
      (s.bank.state = .armed → exec .openEdit s = .next (answered s r 1 [3, owner])) ∧
      (s.bank.state = .editing → other → exec .openEdit s = .next (answered s r 2 [1, owner]))) ∧
    (Ready s r 0x28 →
      (s.bank.state = .idle → exec .abortEdit s = .next (answered s r 3 [0, owner])) ∧
      (s.bank.state = .editing → other → exec .abortEdit s = .next (answered s r 2 [1, owner])) ∧
      (s.bank.state = .validating → other → exec .abortEdit s = .next (answered s r 2 [2, owner])) ∧
      (s.bank.state = .armed → other → exec .abortEdit s = .next (answered s r 2 [3, owner])))

/-- R138, R140, R141, R175: WRITE-TAP and WRITE-BIND from the owner in EDITING write one entry of the shadow bank whole,
or are refused with the first failing argument byte named and nothing written. -/
def Obligations.TapAndBindWritesReachTheShadowBank : Prop :=
  ∀ (s : State) (r : Request), s.bank.state = .editing → s.bank.owner = some r.originator →
    let o : Byte := r.originator.setWidth 8
    let lease : Byte := BitVec.ofNat 8 s.bank.lease
    let a := fun i => r.arg i
    let high := fun i => (r.arg i).toNat / 16
    let low := fun i => (r.arg i).toNat % 16
    let refused := fun (c : Instr) (code : Byte) (k : Nat) =>
      exec c s = .next (answered s r code [1, o, BitVec.ofNat 8 k])
    let written := fun (c : Instr) (data : List Byte) (put : Bank → Bank) =>
      let t := answered s r 0 (data ++ [1, lease])
      exec c s = .next { t with bank := { t.bank with shadow := s.bank.shadow.map put } }
    let tapTests := [(0, decide ((a 0).toNat < 192)), (1, decide (high 1 = 0)), (2, decide ((a 2).toNat ≤ 254)),
      (3, decide (low 3 ≠ 0)), (4, decide ((a 4).toNat ≤ 31)), (5, decide (1 ≤ (a 5).toNat ∧ (a 5).toNat ≤ 63))]
    let bindTests := [(0, decide ((a 0).toNat < 128)), (1, decide (high 1 ≤ 3 ∧ low 1 ≤ 3)),
      (2, decide (1 ≤ low 1 → (a 2).toNat < 192)), (3, decide (2 ≤ low 1 → (a 3).toNat < 192)),
      (4, decide (3 ≤ low 1 → (a 4).toNat < 192)), (5, decide ((a 5).toNat ≤ 1))]
    let twice3 := 2 ≤ low 1 ∧ a 3 = a 2
    let twice4 := 3 ≤ low 1 ∧ (a 4 = a 2 ∨ a 4 = a 3)
    (Ready s r 0x21 →
      (∀ k, firstFailing tapTests = some k → refused .writeTap 4 k) ∧
      (firstFailing tapTests = none → ∀ t : TapNo, t.val = (a 0).toNat →
        let e : TapEntry :=
          { enabled := (a 1).getLsbD 0, side := if (a 1).getLsbD 1 then .trunk else .field, station := a 2,
            slot := BitVec.ofNat 4 (high 3), line := BitVec.ofNat 5 (a 4).toNat, invert := (a 1).getLsbD 2,
            qualify := low 3, spacing := (a 5).toNat, stale := (a 6).toNat, preset := (a 1).getLsbD 3 }
        written .writeTap [0, a 0] fun b => { b with taps := b.taps.set t e })) ∧
    (Ready s r 0x22 →
      (∀ k, firstFailing bindTests = some k → refused .writeBind 4 k) ∧
      (firstFailing bindTests = none →
        (twice3 → refused .writeBind 5 3) ∧ (¬twice3 → twice4 → refused .writeBind 5 4) ∧
        (¬twice3 → ¬twice4 → ∀ (p : PointNo) (fn : Combine) (sources : List TapNo), p.val = (a 0).toNat →
          [Combine.follow, .any, .all, .vote][high 1]? = some fn →
          sources.map (·.val) = [(a 2).toNat, (a 3).toNat, (a 4).toNat].take (low 1) →
          let e : BindEntry := ⟨fn, sources, decide (a 5 = 1), (a 6).toNat⟩
          written .writeBind [1, a 0] fun b => { b with binds := b.binds.set p e })))

/-- R138, R140, R141, R142, R175: the same for WRITE-WATCH, WRITE-PUBLISH and WRITE-POLICY. Which of its two run
arguments names the refusal of a WRITE-POLICY run that would pass station 254 is open (log entry 9). -/
def Obligations.OtherWritesReachTheShadowBank : Prop :=
  ∀ (s : State) (r : Request), s.bank.state = .editing → s.bank.owner = some r.originator →
    let o : Byte := r.originator.setWidth 8
    let lease : Byte := BitVec.ofNat 8 s.bank.lease
    let a := fun i => r.arg i
    let refused := fun (c : Instr) (k : Nat) => exec c s = .next (answered s r 4 [1, o, BitVec.ofNat 8 k])
    let written := fun (c : Instr) (data : List Byte) (put : Bank → Bank) =>
      let t := answered s r 0 (data ++ [lease])
      exec c s = .next { t with bank := { t.bank with shadow := s.bank.shadow.map put } }
    let watchTests := [(0, decide ((a 0).toNat < 48)), (1, decide ((a 1).toNat < 4)),
      (2, decide ((a 2).toNat < if (a 1).getLsbD 1 then 128 else 192)), (3, decide ((a 3).toNat < 6)),
      (4, decide ((a 4).toNat < 4))]
    let publishTests := [(0, decide ((a 0).toNat < 4)), (1, decide ((a 1).toNat < 4)), (3, decide ((a 3).toNat ≤ 1))]
    let policyTests := [(0, decide ((a 0).toNat ≤ 254)), (1, decide (1 ≤ (a 1).toNat ∧ (a 1).toNat ≤ 16))]
    (Ready s r 0x23 →
      (∀ k, firstFailing watchTests = some k → refused .writeWatch k) ∧
      (firstFailing watchTests = none → ∀ (w : WatchNo) (x : Subject) (tr : Trigger) (c : ClassNo),
        w.val = (a 0).toNat →
        ((a 1).getLsbD 1 = false → ∀ t, x = .tap t → t.val = (a 2).toNat) →
        ((a 1).getLsbD 1 = true → ∀ p, x = .point p → p.val = (a 2).toNat) →
        ((a 1).getLsbD 1 = true ↔ ∃ p, x = .point p) →
        [Trigger.rise, .fall, .change, .high, .low, .condition][(a 3).toNat]? = some tr → c.val = (a 4).toNat →
        let e : WatchEntry := ⟨(a 1).getLsbD 0, x, tr, c, (a 5).toNat⟩
        written .writeWatch [2, a 0, 1] fun b => { b with watches := b.watches.set w e })) ∧
    (Ready s r 0x24 →
      (∀ k, firstFailing publishTests = some k → refused .writePublish k) ∧
      (firstFailing publishTests = none → ∀ (g : GroupNo) (d : Direction), g.val = (a 0).toNat →
        [Direction.none, .up, .down, .both][(a 1).toNat]? = some d →
        let e : PublishRecord := ⟨d, (a 2).toNat, decide (a 3 = 1)⟩
        written .writePublish [3, a 0, 1] fun b => { b with publish := b.publish.set g e })) ∧
    (Ready s r 0x25 →
      (∀ k, firstFailing policyTests = some k → refused .writePolicy k) ∧
      (firstFailing policyTests = none → 255 < (a 0).toNat + (a 1).toNat →
        refused .writePolicy 0 ∨ refused .writePolicy 1) ∧
      (firstFailing policyTests = none → (a 0).toNat + (a 1).toNat ≤ 255 →
        let policy := fun (b : Bank) (st : Fin 255) =>
          if (a 0).toNat ≤ st.val ∧ st.val < (a 0).toNat + (a 1).toNat then
            ⟨(a 2 ++ a 3).getLsbD (st.val - (a 0).toNat), (a 4 ++ a 5).getLsbD (st.val - (a 0).toNat)⟩
          else b.policy.get st
        written .writePolicy [4, a 0, a 1] fun b => { b with policy := Tab.ofFn (policy b) }))

/-- R143, R175, R176: READ-ENTRY returns the fields of an entry of the active or the shadow bank, each in its byte of
chapter 10.5 with 0 in each source place beyond the source count, and changes nothing; it is refused in the order R143
gives. -/
def Obligations.ReadEntryShowsTheNamedBank : Prop :=
  ∀ (s : State) (r : Request), Ready s r 0x26 →
    let table := (r.arg 0).toNat
    let i := (r.arg 2).toNat
    let refused := fun code : Byte =>
      exec .readEntry s = .next (answered s r code [(0 : BitVec 6) ++ bankStateCode s.bank.state, ownerByte s.bank.owner])
    let byte := BitVec.ofNat 8
    let shown := fun b : Bank =>
      (table = 0 → ∀ t : TapNo, t.val = i → let e := b.taps.get t
        exec .readEntry s = .next (answered s r 0
          [(0 : BitVec 4) ++ bit e.preset ++ bit e.invert ++ bit (e.side = .trunk) ++ bit e.enabled, e.station,
            e.slot ++ BitVec.ofNat 4 e.qualify, (0 : BitVec 3) ++ e.line, byte e.spacing, byte e.stale])) ∧
      (table = 1 → ∀ p : PointNo, p.val = i → let e := b.binds.get p
        let code : BitVec 4 := match e.fn with
          | .follow => 0
          | .any => 1
          | .all => 2
          | .vote => 3
        ∃ source : Nat → Byte, (∀ k t, e.sources[k]? = some t → source k = byte t.val) ∧
          (∀ k, e.sources.length ≤ k → source k = 0) ∧
          exec .readEntry s = .next (answered s r 0
            [code ++ BitVec.ofNat 4 e.sources.length, source 0, source 1, source 2, (0 : BitVec 7) ++ bit e.failSafe,
              byte e.hold])) ∧
      (table = 2 → ∀ w : WatchNo, w.val = i → let e := b.watches.get w
        let subject : Bool × Nat := match e.subject with
          | .tap t => (false, t.val)
          | .point p => (true, p.val)
        exec .readEntry s = .next (answered s r 0
          [(0 : BitVec 6) ++ bit subject.1 ++ bit e.enabled, byte subject.2, (0 : BitVec 5) ++ triggerCode e.trigger,
            byte e.cls.val, byte e.holdoff])) ∧
      (table = 3 → ∀ g : GroupNo, g.val = i → let e := b.publish.get g
        let code : Byte := match e.direction with
          | .none => 0
          | .up => 1
          | .down => 2
          | .both => 3
        exec .readEntry s = .next (answered s r 0 [code, byte e.period, (0 : BitVec 7) ++ bit e.onChange])) ∧
      (table = 4 → ∀ st : Fin 255, st.val = i → exec .readEntry s = .next (answered s r 0
        [(0 : BitVec 6) ++ bit (b.policy.get st).downBlock ++ bit (b.policy.get st).upBlock])) ∧
      (∀ size, [192, 128, 48, 4, 255][table]? = some size → size ≤ i → refused 4)
    (5 ≤ table ∨ 2 ≤ (r.arg 1).toNat → refused 4) ∧
    (table < 5 → r.arg 1 = 0 → shown s.bank.active) ∧
    (table < 5 → r.arg 1 = 1 → (s.bank.shadow = none → refused 3) ∧ ∀ b, s.bank.shadow = some b → shown b)

/-- R144, R148, R175: COMMIT from the owner in EDITING begins a validation for its target, unless the target names no
kind or has already passed. That the two count bytes of the answer to NEXT are 0 is the model's reading of R176 (log
entry 10). -/
def Obligations.CommitBeginsValidation : Prop :=
  ∀ (s : State) (r : Request), Ready s r 0x27 → s.bank.state = .editing → s.bank.owner = some r.originator →
    let o : Byte := r.originator.setWidth 8
    let at' := r.arg 1 ++ r.arg 2
    let now := [highByte s.cycle.count, lowByte s.cycle.count]
    let begun := fun (data : List Byte) (target : Target) =>
      let t := answered s r 0 (data ++ now)
      exec .commit s = .next { t with bank := { t.bank with
        state := .validating, target := target, targetPassed := false } }
    (r.arg 0 = 1 → begun [2, 1, 0, 0] .next) ∧
    (r.arg 0 = 2 → at' ≠ s.cycle.count → (at' - s.cycle.count).toNat < 32768 → begun [2, 2, r.arg 1, r.arg 2] (.atCount at')) ∧
    (r.arg 0 = 2 → at' = s.cycle.count ∨ 32768 ≤ (at' - s.cycle.count).toNat →
      exec .commit s = .next (answered s r 8 ([1, o] ++ now))) ∧
    (r.arg 0 ≠ 1 → r.arg 0 ≠ 2 → exec .commit s = .next (answered s r 4 [1, o]))

/-- R152, R154: ABORT-EDIT from the owner ends the session; READ-BANK-STATUS shows the session and its outcome. -/
def Obligations.SessionsAreAbortedAndShown : Prop :=
  ∀ (s : State) (r : Request),
    (Ready s r 0x28 → s.bank.state ≠ .idle → s.bank.owner = some r.originator →
      exec .abortEdit s = .next
        { answered s r 0 [(0 : BitVec 6) ++ bankStateCode s.bank.state] with bank := { s.bank with
          shadow := none, state := .idle, owner := none, lease := 0, leaseRemaining := 0, target := .none,
          targetPassed := false, lastOutcome := .aborted, firstError := none } }) ∧
    (Ready s r 0x29 →
      let left := if s.bank.state = .editing ∧ s.bank.owner = some r.originator then s.bank.lease
        else s.bank.leaseRemaining
      let target : BitVec 2 × Word16 := match s.bank.target with
        | .none => (0, 0)
        | .next => (1, 0)
        | .atCount n => (2, n)
      (r.arg 0 = 0 → exec .readBankStatus s = .next (answered s r 0
        [bit s.bank.targetPassed ++ (0 : BitVec 1) ++ target.1 ++ (0 : BitVec 2) ++ bankStateCode s.bank.state,
          ownerByte s.bank.owner, BitVec.ofNat 8 s.bank.lease, BitVec.ofNat 8 left, highByte target.2,
          lowByte target.2])) ∧
      (r.arg 0 = 1 → exec .readBankStatus s = .next (answered s r 0
        ([highByte s.bank.generation, lowByte s.bank.generation, outcomeCode s.bank.lastOutcome] ++
          match s.bank.firstError with
          | none => [0, 0, 0]
          | some x => [tableCode x.table, BitVec.ofNat 8 x.index, reasonCode x.reason]))) ∧
      (2 ≤ (r.arg 0).toNat → exec .readBankStatus s = .next (answered s r 4 [])))

/-! ### Requests: taps, points, watches, delivery -/

/-- R23, R47: READ-TAP-STATE and READ-POINT-STATE show a tap's or a point's runtime record and change nothing.
That the enabled mark and the side are those of the entries the tap unit works by is the model's reading (log entry
12). -/
def Obligations.TapAndPointReadsShowTheRecords : Prop :=
  ∀ (s : State) (r : Request),
    (Ready s r 0x30 →
      (∀ t : TapNo, t.val = (r.arg 0).toNat →
        let x := s.tap.records.get t
        let e := s.tap.entries.get t
        (r.arg 1 = 0 → exec .readTapState s = .next (answered s r 0
          [(0 : BitVec 1) ++ conditionCode (.tap x.cond) ++ bit x.candidate ++ bit x.qualified ++ bit (e.side = .trunk)
            ++ bit e.enabled, BitVec.ofNat 8 x.run, BitVec.ofNat 8 x.spacing, BitVec.ofNat 8 x.age])) ∧
        (r.arg 1 = 1 → exec .readTapState s = .next (answered s r 0
          [(0 : BitVec 1) ++ conditionCode (.tap x.cond) ++ (0 : BitVec 1) ++ bit x.qualified ++ (0 : BitVec 2),
            highByte x.changes, lowByte x.changes, highByte x.untrusted, lowByte x.untrusted]))) ∧
      (192 ≤ (r.arg 0).toNat ∨ 2 ≤ (r.arg 1).toNat → exec .readTapState s = .next (answered s r 4 []))) ∧
    (Ready s r 0x38 →
      (∀ p : PointNo, p.val = (r.arg 0).toNat →
        let x := s.xc.records.get p
        let free : Byte := BitVec.ofNat 8 (16 - (List.finRange 128).countP fun q => (s.xc.forces.get q).isSome)
        (r.arg 1 = 0 → exec .readPointState s = .next (answered s r 0
          [bit (s.xc.forces.get p).isSome ++ conditionCode (.point x.cond) ++ bit x.quality ++ bit x.published
            ++ bit x.lastGood ++ bit x.combined, BitVec.ofNat 8 x.hold, highByte x.changes, lowByte x.changes])) ∧
        (r.arg 1 = 1 → s.xc.forces.get p = none →
          exec .readPointState s = .next (answered s r 0 [0, 0xFF, 0, 0, free])) ∧
        (∀ f, r.arg 1 = 1 → s.xc.forces.get p = some f →
          exec .readPointState s = .next (answered s r 0
            [(0 : BitVec 6) ++ bit f.value ++ 1#1, f.owner.setWidth 8, highByte (BitVec.ofNat 16 (f.remaining.getD 0)),
              lowByte (BitVec.ofNat 16 (f.remaining.getD 0)), free]))) ∧
      (128 ≤ (r.arg 0).toNat ∨ 2 ≤ (r.arg 1).toNat → exec .readPointState s = .next (answered s r 4 [])))

/-- R38, R39, R40, R41, R42: FORCE-POINT creates or replaces a force record, RELEASE-POINT removes it, and each
recomputes and reports its point; a record of another originator stands, and a full table takes no new one; a number
of no point and a value that is neither 0 nor 1 are refused. -/
def Obligations.ForcesAreMadeReplacedAndReleased : Prop :=
  (∀ (s : State) (r : Request),
    (Ready s r 0x39 → 128 ≤ (r.arg 0).toNat ∨ 2 ≤ (r.arg 1).toNat →
      exec .forcePoint s = .next (answered s r 4 [])) ∧
    (Ready s r 0x3A → 128 ≤ (r.arg 0).toNat → exec .releasePoint s = .next (answered s r 4 []))) ∧
  ∀ (s : State) (r : Request) (p : PointNo), p.val = (r.arg 0).toNat → forceCount s ≤ 16 →
    let duration := (r.arg 2 ++ r.arg 3).toNat
    let made : ForceRecord := ⟨decide (r.arg 1 = 1), r.originator, if duration = 0 then none else some duration⟩
    let used := forceCount s
    let before := s.xc.forces.get p
    let becomes := fun (c : Instr) (f : Option ForceRecord) (mark : Byte) (free : Nat) =>
      let a := answered s r 0 [mark, BitVec.ofNat 8 free]
      let x := s.xc.records.get p
      let y := recomputed s (s.xc.entries.get p) f x
      let reps : List PointReport :=
        if x.published = y.published ∧ x.quality = y.quality ∧ x.cond = y.cond ∧ before.isSome = f.isSome then []
        else [⟨p, ⟨x.published, x.quality, x.cond, before.isSome⟩, ⟨y.published, y.quality, y.cond, f.isSome⟩⟩]
      exec c s = .next (toldOfPoints
        { a with xc := { s.xc with
            forces := s.xc.forces.set p f, records := s.xc.records.set p y, unseen := 0 } } 0 reps)
    let held := fun (c : Instr) (f : ForceRecord) => exec c s = .next (answered s r 6 [0, 0, f.owner.setWidth 8])
    (Ready s r 0x39 → (r.arg 1).toNat ≤ 1 →
      (before = none → used < 16 → becomes .forcePoint (some made) 1 (15 - used)) ∧
      (before = none → used = 16 → exec .forcePoint s = .next (answered s r 7 [0, 0])) ∧
      (∀ f, before = some f → f.owner = r.originator → becomes .forcePoint (some made) 2 (16 - used)) ∧
      (∀ f, before = some f → f.owner ≠ r.originator → held .forcePoint f)) ∧
    (Ready s r 0x3A →
      (before = none → exec .releasePoint s = .next (answered s r 0 [4, BitVec.ofNat 8 (16 - used)])) ∧
      (∀ f, before = some f → f.owner = r.originator → becomes .releasePoint none 3 (17 - used)) ∧
      (∀ f, before = some f → f.owner ≠ r.originator → held .releasePoint f))

/-- R71, R72: READ-WATCH-STATE shows a watch's record, or a position of the notice queue, and changes nothing.
That the enabled mark is that of the entries the notice unit works by is the model's reading (log entry 12). -/
def Obligations.WatchReadsShowTheRecordsAndTheQueue : Prop :=
  ∀ (s : State) (r : Request), Ready s r 0x40 →
    let fill := BitVec.ofNat 5 s.notice.queue.length
    (r.arg 0 = 0 → ∀ w : WatchNo, w.val = (r.arg 1).toNat →
      let x := s.notice.records.get w
      let head := [BitVec.ofNat 4 (s.delivery.inFlight.countP fun f => f.notice.watch = w) ++ (0 : BitVec 2)
        ++ bit x.queued ++ bit (s.notice.entries.get w).enabled, BitVec.ofNat 8 x.holdoff, highByte x.absorbed,
        lowByte x.absorbed]
      ((∀ n ∈ s.notice.queue, n.watch ≠ w) → exec .readWatchState s = .next (answered s r 0 (head ++ [0xFF, 0]))) ∧
      (∀ l n l', s.notice.queue = l ++ n :: l' → (∀ m ∈ l, m.watch ≠ w) → n.watch = w →
        exec .readWatchState s = .next (answered s r 0
          (head ++ [BitVec.ofNat 8 l.length, BitVec.ofNat 8 n.count])))) ∧
    (r.arg 0 = 1 → (r.arg 1).toNat < 24 →
      (s.notice.queue.length ≤ (r.arg 1).toNat →
        exec .readWatchState s = .next (answered s r 0 [1#1 ++ (0 : BitVec 2) ++ fill])) ∧
      (∀ l n l', s.notice.queue = l ++ n :: l' → l.length = (r.arg 1).toNat →
        exec .readWatchState s = .next (answered s r 0
          [(0 : BitVec 3) ++ fill, BitVec.ofNat 8 n.watch.val,
            (0 : BitVec 2) ++ BitVec.ofNat 2 n.cls.val ++ (0 : BitVec 1) ++ triggerCode n.trigger,
            BitVec.ofNat 8 n.count, highByte n.first, lowByte n.first]))) ∧
    ((r.arg 0 = 0 ∧ 48 ≤ (r.arg 1).toNat) ∨ (r.arg 0 = 1 ∧ 24 ≤ (r.arg 1).toNat) ∨ 2 ≤ (r.arg 0).toNat →
      exec .readWatchState s = .next (answered s r 4 []))

/-- R64, R74: GATE opens the classes of its first mask and closes those of its second, opening where both name one;
SET-DELIVERY sets the budget, the retry interval and the attempts, leaving the records in flight as they are. -/
def Obligations.GateAndSetDeliveryConfigureTheNoticeUnit : Prop :=
  ∀ (s : State) (r : Request),
    (Ready s r 0x41 →
      ((r.arg 0).toNat < 16 → (r.arg 1).toNat < 16 → ∃ gates : Tab 4 Bool,
        (∀ c, gates.get c = ((r.arg 0).getLsbD c.val || (s.notice.gates.get c && !(r.arg 1).getLsbD c.val))) ∧
        let a := answered s r 0 [(0 : BitVec 4) ++ bit (gates.get 3) ++ bit (gates.get 2) ++ bit (gates.get 1)
          ++ bit (gates.get 0)]
        exec .gate s = .next { a with notice := { s.notice with gates := gates } }) ∧
      (16 ≤ (r.arg 0).toNat ∨ 16 ≤ (r.arg 1).toNat → exec .gate s = .next (answered s r 4 []))) ∧
    (Ready s r 0x43 →
      let ok := 1 ≤ (r.arg 0).toNat ∧ (r.arg 0).toNat ≤ 4 ∧ 1 ≤ (r.arg 1).toNat ∧ (r.arg 2).toNat ≤ 7
      (ok → exec .setDelivery s = .next
        { answered s r 0 [r.arg 0, r.arg 1, r.arg 2, BitVec.ofNat 8 s.delivery.inFlight.length] with
          delivery := { s.delivery with
            budget := (r.arg 0).toNat, retryInterval := (r.arg 1).toNat, attempts := (r.arg 2).toNat } }) ∧
      (¬ok → exec .setDelivery s = .next (answered s r 4 [])))

/-- R83: ACK-NOTICE removes the listed records that are in flight, counts them as acknowledged, and says which places
of the list found one; a number listed twice is found once. -/
def Obligations.AcknowledgedNoticesLeaveTheFlightList : Prop :=
  ∀ (s : State) (r : Request), Ready s r 0x42 → (s.delivery.inFlight.map (·.sequence)).Nodup →
    let n := (r.arg 0).toNat
    let listed := [r.arg 1, r.arg 2, r.arg 3, r.arg 4, r.arg 5, r.arg 6].take n
    let left := s.delivery.inFlight.filter fun f => f.sequence ∉ listed
    (1 ≤ n → n ≤ 6 → ∃ mask : Byte,
      (∀ k, mask.getLsbD k = true ↔ ∃ seq, listed[k]? = some seq ∧
        seq ∈ s.delivery.inFlight.map (·.sequence) ∧ seq ∉ listed.take k) ∧
      exec .ackNotice s = .next { answered s r 0 [mask, BitVec.ofNat 8 left.length] with
        delivery := { s.delivery with inFlight := left },
        notice := { s.notice with
          acknowledged := s.notice.acknowledged + BitVec.ofNat 32 (s.delivery.inFlight.length - left.length) } }) ∧
    (n = 0 ∨ 6 < n → exec .ackNotice s = .next (answered s r 4 []))

/-! ### Encodings -/

/-- R143, R175: an entry sent back by a write with the data bytes that a read of it shows is that entry again. -/
def Obligations.EntryReadsAndWritesAgree : Prop :=
  ∀ (r : Request),
    let holds := fun d : List Byte => ∀ k b, d[k]? = some b → r.arg (k + 1) = b
    (∀ (t : TapNo) (e : TapEntry), TapEntryOk e → (r.arg 0).toNat = t.val → holds (tapEntryData e) →
      writeTapArgs r = .entry t e) ∧
    (∀ (p : PointNo) (e : BindEntry), e.sources.length ≤ 3 → e.sources.Nodup → e.hold ≤ 255 →
      (r.arg 0).toNat = p.val → holds (bindEntryData e) → writeBindArgs r = .entry p e) ∧
    (∀ (w : WatchNo) (e : WatchEntry), e.holdoff ≤ 255 → (r.arg 0).toNat = w.val → holds (watchEntryData e) →
      writeWatchArgs r = .entry w e) ∧
    (∀ (g : GroupNo) (e : PublishRecord), e.period ≤ 255 → (r.arg 0).toNat = g.val → holds (publishRecordData e) →
      writePublishArgs r = .entry g e) ∧
    ∀ op : Operation, Operation.ofCode op.code = some op

/-- R81, R88, R93, R95, R110, R129, R162, R173, R174: the bytes of a cell and its fields agree, every cell the part
makes carries a check that an arriving copy of it passes, and each field of the five made kinds stands where the layout
puts it. A DERIVED cell shows each point after the reports on it that the publisher has taken and before those it has
not. Whether the stamp of a NOTICE cell is the last stamp of its notice, by R81 and chapter 10.3, or the count at which
it is made, by R100 and R114, is left open (log entry 21): the statement gives both. -/
def Obligations.MadeCellsReadBackWithGoodCheck : Prop :=
  let byte := fun (c : Cell) (k : Nat) => c.toRaw.extractLsb' (8 * (15 - k)) 8
  (∀ raw : RawCell, (Cell.ofRaw raw).toRaw = raw) ∧ (∀ c : Cell, Cell.ofRaw c.toRaw = c) ∧
  (∀ c : Cell, goodCheck (withCheck c).toRaw = true ∧ checkOfBits (lineBits (withCheck c).toRaw) = 0) ∧
  (∀ (s : State) (g : GroupNo) (n : Word16) (i : Fin 32) (p : PointNo), p.val = 32 * g.val + i.val →
    let c := groupCell s g n
    let line := c.toRaw.getLsbD (8 * (15 - (7 - i.val / 8)) + i.val % 8)
    let trust := c.toRaw.getLsbD (8 * (15 - (11 - i.val / 8)) + i.val % 8)
    goodCheck c.toRaw = true ∧ byte c 0 = 0x30 ∧ byte c 1 = s.engine.station ∧ byte c 2 = BitVec.ofNat 8 g.val ∧
      byte c 3 = lowByte s.publisher.generation ∧ byte c 12 ++ byte c 13 = n ∧
      ((∀ r ∈ s.publisher.reports, r.point ≠ p) →
        line = (s.xc.records.get p).published ∧ trust = (s.xc.records.get p).quality) ∧
      ∀ l r l', s.publisher.reports = l ++ r :: l' → (∀ x ∈ l, x.point ≠ p) → r.point = p →
        line = r.before.value ∧ trust = r.before.quality) ∧
  (∀ (station : Byte) (attention again : Bool) (n : Word16) (f : FlightRecord),
    let c := makeNoticeCell station attention again n f
    goodCheck c.toRaw = true ∧ byte c 0 = 0x40 ||| (0 : BitVec 6) ++ bit again ++ bit attention ∧ byte c 1 = station ∧
      byte c 2 = 0 ∧ byte c 3 = f.sequence ∧ byte c 4 = f.sequence ∧ byte c 5 = BitVec.ofNat 8 f.notice.watch.val ∧
      byte c 6 = BitVec.ofNat 8 (16 * f.notice.cls.val + (triggerCode f.notice.trigger).toNat) ∧
      byte c 7 = (0 : BitVec 3) ++ bit f.notice.forced ++ conditionCode f.notice.cond ++ bit f.notice.value ∧
      byte c 8 = BitVec.ofNat 8 f.notice.count ∧ byte c 9 ++ byte c 10 = f.notice.first ∧
      byte c 11 = BitVec.ofNat 8 f.attempt ∧ byte c 12 ++ byte c 13 = if Config.noticeStampIsCount = true then n else f.notice.last) ∧
  (∀ (station : Byte) (holdover : Bool) (n : Word16),
    let c := makeCycleCell station holdover n
    goodCheck c.toRaw = true ∧ byte c 0 = 0x10 ||| (0 : BitVec 7) ++ bit holdover ∧ byte c 1 = station ∧
      (∀ k, 2 ≤ k → k ≤ 11 → byte c k = 0) ∧ byte c 12 ++ byte c 13 = n) ∧
  (∀ (station : Byte) (r : Request) (result : Result) (data : List Byte),
    let c := makeResponseCell station r result data
    goodCheck c.toRaw = true ∧ byte c 0 = 0x60 ∧ byte c 1 = station ∧ byte c 2 = r.originator.setWidth 8 ∧
      byte c 3 = r.tag ∧ byte c 4 = r.operation ∧ byte c 5 = resultCode result ∧
      (∀ k, k < 6 → byte c (6 + k) = data.getD k 0) ∧ byte c 12 ++ byte c 13 = r.arrival) ∧
  ∀ station : Byte, let c := makeFillCell station
    goodCheck c.toRaw = true ∧ byte c 0 = 0 ∧ byte c 1 = station ∧ ∀ k, 2 ≤ k → k ≤ 13 → byte c k = 0

/-! ### Invariants -/

/-- R115, R116, R119, R127, R130, R159: every step keeps the ports and the request queue in order. -/
def Obligations.StepsKeepThePortsInOrder : Prop :=
  ∀ s t : State, PortsInv s → step s = .next t → PortsInv t

/-- R1, R2, R141: every step keeps every tap entry in range and every tap's record fitted to its entry. -/
def Obligations.StepsKeepTheTapsInOrder : Prop :=
  ∀ s t : State, TapsInv s → step s = .next t → TapsInv t

/-- R32, R33, R40: every step keeps each point's published value and quality, its hold and its condition agreed, and
the force table within its capacity. -/
def Obligations.StepsKeepThePointsInOrder : Prop :=
  ∀ s t : State, PointsInv s → step s = .next t → PointsInv t

/-- R49, R50, R59, R67, R75, R76: every step keeps the notice queue ordered with one notice for a watch, the records in
flight distinct, and every raised notice accounted for. -/
def Obligations.StepsKeepTheNoticesInOrder : Prop :=
  ∀ s t : State, NoticesInv s → step s = .next t → NoticesInv t

/-- R134, R135, R146: every step keeps the session's fields agreed and the active bank valid. -/
def Obligations.StepsKeepTheBanksInOrder : Prop :=
  ∀ s t : State, BanksInv s → step s = .next t → BanksInv t

/-- R115, R127, R135, R159: the state the model starts from meets every invariant that steps keep. -/
def Obligations.ResetStateMeetsTheInvariants : Prop :=
  PortsInv State.reset ∧ TapsInv State.reset ∧ PointsInv State.reset ∧ NoticesInv State.reset ∧ BanksInv State.reset
end

