-- ==== Sys2Proof/Laws/State.lean ====
section
/-! SUPPORT. For each update of the state, what every field of the state is after it. -/

namespace Sys2Proof.Machine

/-! ### A port changed -/

@[simp] theorem setPort_pending (s : State) (p : Port) (ps : PortState) : (s.setPort p ps).pending = s.pending := by cases p <;> rfl
@[simp] theorem setPort_resetLine (s : State) (p : Port) (ps : PortState) : (s.setPort p ps).resetLine = s.resetLine := by cases p <;> rfl
@[simp] theorem setPort_straps (s : State) (p : Port) (ps : PortState) : (s.setPort p ps).straps = s.straps := by cases p <;> rfl
@[simp] theorem setPort_drawn (s : State) (p : Port) (ps : PortState) : (s.setPort p ps).drawn = s.drawn := by cases p <;> rfl
@[simp] theorem setPort_tap (s : State) (p : Port) (ps : PortState) : (s.setPort p ps).tap = s.tap := by cases p <;> rfl
@[simp] theorem setPort_xc (s : State) (p : Port) (ps : PortState) : (s.setPort p ps).xc = s.xc := by cases p <;> rfl
@[simp] theorem setPort_notice (s : State) (p : Port) (ps : PortState) : (s.setPort p ps).notice = s.notice := by cases p <;> rfl
@[simp] theorem setPort_delivery (s : State) (p : Port) (ps : PortState) : (s.setPort p ps).delivery = s.delivery := by cases p <;> rfl
@[simp] theorem setPort_publisher (s : State) (p : Port) (ps : PortState) : (s.setPort p ps).publisher = s.publisher := by cases p <;> rfl
@[simp] theorem setPort_cycle (s : State) (p : Port) (ps : PortState) : (s.setPort p ps).cycle = s.cycle := by cases p <;> rfl
@[simp] theorem setPort_bank (s : State) (p : Port) (ps : PortState) : (s.setPort p ps).bank = s.bank := by cases p <;> rfl
@[simp] theorem setPort_engine (s : State) (p : Port) (ps : PortState) : (s.setPort p ps).engine = s.engine := by cases p <;> rfl
@[simp] theorem onPort_pending (s : State) (p : Port) (f : PortState → PortState) : (s.onPort p f).pending = s.pending := by cases p <;> rfl
@[simp] theorem onPort_resetLine (s : State) (p : Port) (f : PortState → PortState) : (s.onPort p f).resetLine = s.resetLine := by cases p <;> rfl
@[simp] theorem onPort_straps (s : State) (p : Port) (f : PortState → PortState) : (s.onPort p f).straps = s.straps := by cases p <;> rfl
@[simp] theorem onPort_drawn (s : State) (p : Port) (f : PortState → PortState) : (s.onPort p f).drawn = s.drawn := by cases p <;> rfl
@[simp] theorem onPort_tap (s : State) (p : Port) (f : PortState → PortState) : (s.onPort p f).tap = s.tap := by cases p <;> rfl
@[simp] theorem onPort_xc (s : State) (p : Port) (f : PortState → PortState) : (s.onPort p f).xc = s.xc := by cases p <;> rfl
@[simp] theorem onPort_notice (s : State) (p : Port) (f : PortState → PortState) : (s.onPort p f).notice = s.notice := by cases p <;> rfl
@[simp] theorem onPort_delivery (s : State) (p : Port) (f : PortState → PortState) : (s.onPort p f).delivery = s.delivery := by cases p <;> rfl
@[simp] theorem onPort_publisher (s : State) (p : Port) (f : PortState → PortState) : (s.onPort p f).publisher = s.publisher := by cases p <;> rfl
@[simp] theorem onPort_cycle (s : State) (p : Port) (f : PortState → PortState) : (s.onPort p f).cycle = s.cycle := by cases p <;> rfl
@[simp] theorem onPort_bank (s : State) (p : Port) (f : PortState → PortState) : (s.onPort p f).bank = s.bank := by cases p <;> rfl
@[simp] theorem onPort_engine (s : State) (p : Port) (f : PortState → PortState) : (s.onPort p f).engine = s.engine := by cases p <;> rfl
@[simp] theorem port_trunk (s : State) : s.port .trunk = s.trunk := rfl
@[simp] theorem port_field (s : State) : s.port .field = s.field := rfl
@[simp] theorem setPort_trunk_trunk (s : State) (ps : PortState) : (s.setPort .trunk ps).trunk = ps := rfl
@[simp] theorem setPort_trunk_field (s : State) (ps : PortState) : (s.setPort .trunk ps).field = s.field := rfl
@[simp] theorem setPort_field_trunk (s : State) (ps : PortState) : (s.setPort .field ps).trunk = s.trunk := rfl
@[simp] theorem setPort_field_field (s : State) (ps : PortState) : (s.setPort .field ps).field = ps := rfl
@[simp] theorem onPort_trunk_trunk (s : State) (f : PortState → PortState) : (s.onPort .trunk f).trunk = f s.trunk := rfl
@[simp] theorem onPort_trunk_field (s : State) (f : PortState → PortState) : (s.onPort .trunk f).field = s.field := rfl
@[simp] theorem onPort_field_trunk (s : State) (f : PortState → PortState) : (s.onPort .field f).trunk = s.trunk := rfl
@[simp] theorem onPort_field_field (s : State) (f : PortState → PortState) : (s.onPort .field f).field = f s.field := rfl
@[simp] theorem port_setPort (s : State) (p : Port) (ps : PortState) : (s.setPort p ps).port p = ps := by cases p <;> rfl
@[simp] theorem port_setPort_other (s : State) (p : Port) (ps : PortState) :
    (s.setPort p ps).port p.other = s.port p.other := by cases p <;> rfl
@[simp] theorem port_onPort (s : State) (p : Port) (f : PortState → PortState) : (s.onPort p f).port p = f (s.port p) := by
  cases p <;> rfl
@[simp] theorem port_onPort_other (s : State) (p : Port) (f : PortState → PortState) :
    (s.onPort p f).port p.other = s.port p.other := by cases p <;> rfl

/-! ### An indicator set, the engine state changed -/

@[simp] theorem indicate_pending (s : State) (i : Indicator) : (s.indicate i).pending = s.pending := rfl
@[simp] theorem indicate_resetLine (s : State) (i : Indicator) : (s.indicate i).resetLine = s.resetLine := rfl
@[simp] theorem indicate_straps (s : State) (i : Indicator) : (s.indicate i).straps = s.straps := rfl
@[simp] theorem indicate_drawn (s : State) (i : Indicator) : (s.indicate i).drawn = s.drawn := rfl
@[simp] theorem indicate_tap (s : State) (i : Indicator) : (s.indicate i).tap = s.tap := rfl
@[simp] theorem indicate_xc (s : State) (i : Indicator) : (s.indicate i).xc = s.xc := rfl
@[simp] theorem indicate_notice (s : State) (i : Indicator) : (s.indicate i).notice = s.notice := rfl
@[simp] theorem indicate_delivery (s : State) (i : Indicator) : (s.indicate i).delivery = s.delivery := rfl
@[simp] theorem indicate_publisher (s : State) (i : Indicator) : (s.indicate i).publisher = s.publisher := rfl
@[simp] theorem indicate_cycle (s : State) (i : Indicator) : (s.indicate i).cycle = s.cycle := rfl
@[simp] theorem indicate_trunk (s : State) (i : Indicator) : (s.indicate i).trunk = s.trunk := rfl
@[simp] theorem indicate_field (s : State) (i : Indicator) : (s.indicate i).field = s.field := rfl
@[simp] theorem indicate_bank (s : State) (i : Indicator) : (s.indicate i).bank = s.bank := rfl
@[simp] theorem indicate_engine_station (s : State) (i : Indicator) : (s.indicate i).engine.station = s.engine.station := rfl
@[simp] theorem indicate_engine_queue (s : State) (i : Indicator) : (s.indicate i).engine.queue = s.engine.queue := rfl
@[simp] theorem indicate_engine_state (s : State) (i : Indicator) : (s.indicate i).engine.state = s.engine.state := rfl
@[simp] theorem indicate_engine_indicators (s : State) (i : Indicator) : (s.indicate i).engine.indicators = s.engine.indicators ||| indicatorBit i := rfl
@[simp] theorem indicate_engine_resetCause (s : State) (i : Indicator) : (s.indicate i).engine.resetCause = s.engine.resetCause := rfl
@[simp] theorem indicate_engine_requestDrops (s : State) (i : Indicator) : (s.indicate i).engine.requestDrops = s.engine.requestDrops := rfl
@[simp] theorem onEngineState_pending (s : State) (f : EngineState → EngineState) : (s.onEngineState f).pending = s.pending := rfl
@[simp] theorem onEngineState_resetLine (s : State) (f : EngineState → EngineState) : (s.onEngineState f).resetLine = s.resetLine := rfl
@[simp] theorem onEngineState_straps (s : State) (f : EngineState → EngineState) : (s.onEngineState f).straps = s.straps := rfl
@[simp] theorem onEngineState_drawn (s : State) (f : EngineState → EngineState) : (s.onEngineState f).drawn = s.drawn := rfl
@[simp] theorem onEngineState_tap (s : State) (f : EngineState → EngineState) : (s.onEngineState f).tap = s.tap := rfl
@[simp] theorem onEngineState_xc (s : State) (f : EngineState → EngineState) : (s.onEngineState f).xc = s.xc := rfl
@[simp] theorem onEngineState_notice (s : State) (f : EngineState → EngineState) : (s.onEngineState f).notice = s.notice := rfl
@[simp] theorem onEngineState_delivery (s : State) (f : EngineState → EngineState) : (s.onEngineState f).delivery = s.delivery := rfl
@[simp] theorem onEngineState_publisher (s : State) (f : EngineState → EngineState) : (s.onEngineState f).publisher = s.publisher := rfl
@[simp] theorem onEngineState_cycle (s : State) (f : EngineState → EngineState) : (s.onEngineState f).cycle = s.cycle := rfl
@[simp] theorem onEngineState_trunk (s : State) (f : EngineState → EngineState) : (s.onEngineState f).trunk = s.trunk := rfl
@[simp] theorem onEngineState_field (s : State) (f : EngineState → EngineState) : (s.onEngineState f).field = s.field := rfl
@[simp] theorem onEngineState_bank (s : State) (f : EngineState → EngineState) : (s.onEngineState f).bank = s.bank := rfl
@[simp] theorem onEngineState_engine_station (s : State) (f : EngineState → EngineState) : (s.onEngineState f).engine.station = s.engine.station := rfl
@[simp] theorem onEngineState_engine_queue (s : State) (f : EngineState → EngineState) : (s.onEngineState f).engine.queue = s.engine.queue := rfl
@[simp] theorem onEngineState_engine_state (s : State) (f : EngineState → EngineState) : (s.onEngineState f).engine.state = f s.engine.state := rfl
@[simp] theorem onEngineState_engine_indicators (s : State) (f : EngineState → EngineState) : (s.onEngineState f).engine.indicators = s.engine.indicators := rfl
@[simp] theorem onEngineState_engine_resetCause (s : State) (f : EngineState → EngineState) : (s.onEngineState f).engine.resetCause = s.engine.resetCause := rfl
@[simp] theorem onEngineState_engine_requestDrops (s : State) (f : EngineState → EngineState) : (s.onEngineState f).engine.requestDrops = s.engine.requestDrops := rfl

/-! ### Cycle timing and the bank unit changed -/

@[simp] theorem onCycle_pending (s : State) (f : CycleTiming → CycleTiming) : (s.onCycle f).pending = s.pending := rfl
@[simp] theorem onCycle_resetLine (s : State) (f : CycleTiming → CycleTiming) : (s.onCycle f).resetLine = s.resetLine := rfl
@[simp] theorem onCycle_straps (s : State) (f : CycleTiming → CycleTiming) : (s.onCycle f).straps = s.straps := rfl
@[simp] theorem onCycle_drawn (s : State) (f : CycleTiming → CycleTiming) : (s.onCycle f).drawn = s.drawn := rfl
@[simp] theorem onCycle_tap (s : State) (f : CycleTiming → CycleTiming) : (s.onCycle f).tap = s.tap := rfl
@[simp] theorem onCycle_xc (s : State) (f : CycleTiming → CycleTiming) : (s.onCycle f).xc = s.xc := rfl
@[simp] theorem onCycle_notice (s : State) (f : CycleTiming → CycleTiming) : (s.onCycle f).notice = s.notice := rfl
@[simp] theorem onCycle_delivery (s : State) (f : CycleTiming → CycleTiming) : (s.onCycle f).delivery = s.delivery := rfl
@[simp] theorem onCycle_publisher (s : State) (f : CycleTiming → CycleTiming) : (s.onCycle f).publisher = s.publisher := rfl
@[simp] theorem onCycle_trunk (s : State) (f : CycleTiming → CycleTiming) : (s.onCycle f).trunk = s.trunk := rfl
@[simp] theorem onCycle_field (s : State) (f : CycleTiming → CycleTiming) : (s.onCycle f).field = s.field := rfl
@[simp] theorem onCycle_bank (s : State) (f : CycleTiming → CycleTiming) : (s.onCycle f).bank = s.bank := rfl
@[simp] theorem onCycle_engine (s : State) (f : CycleTiming → CycleTiming) : (s.onCycle f).engine = s.engine := rfl
@[simp] theorem onCycle_cycle (s : State) (f : CycleTiming → CycleTiming) : (s.onCycle f).cycle = f s.cycle := rfl
@[simp] theorem onBank_pending (s : State) (f : BankUnit → BankUnit) : (s.onBank f).pending = s.pending := rfl
@[simp] theorem onBank_resetLine (s : State) (f : BankUnit → BankUnit) : (s.onBank f).resetLine = s.resetLine := rfl
@[simp] theorem onBank_straps (s : State) (f : BankUnit → BankUnit) : (s.onBank f).straps = s.straps := rfl
@[simp] theorem onBank_drawn (s : State) (f : BankUnit → BankUnit) : (s.onBank f).drawn = s.drawn := rfl
@[simp] theorem onBank_tap (s : State) (f : BankUnit → BankUnit) : (s.onBank f).tap = s.tap := rfl
@[simp] theorem onBank_xc (s : State) (f : BankUnit → BankUnit) : (s.onBank f).xc = s.xc := rfl
@[simp] theorem onBank_notice (s : State) (f : BankUnit → BankUnit) : (s.onBank f).notice = s.notice := rfl
@[simp] theorem onBank_delivery (s : State) (f : BankUnit → BankUnit) : (s.onBank f).delivery = s.delivery := rfl
@[simp] theorem onBank_publisher (s : State) (f : BankUnit → BankUnit) : (s.onBank f).publisher = s.publisher := rfl
@[simp] theorem onBank_cycle (s : State) (f : BankUnit → BankUnit) : (s.onBank f).cycle = s.cycle := rfl
@[simp] theorem onBank_trunk (s : State) (f : BankUnit → BankUnit) : (s.onBank f).trunk = s.trunk := rfl
@[simp] theorem onBank_field (s : State) (f : BankUnit → BankUnit) : (s.onBank f).field = s.field := rfl
@[simp] theorem onBank_engine (s : State) (f : BankUnit → BankUnit) : (s.onBank f).engine = s.engine := rfl
@[simp] theorem onBank_bank (s : State) (f : BankUnit → BankUnit) : (s.onBank f).bank = f s.bank := rfl

/-! ### The notice unit changed -/

@[simp] theorem onWatch_pending (s : State) (w : WatchNo) (f : WatchRecord → WatchRecord) : (s.onWatch w f).pending = s.pending := rfl
@[simp] theorem onWatch_resetLine (s : State) (w : WatchNo) (f : WatchRecord → WatchRecord) : (s.onWatch w f).resetLine = s.resetLine := rfl
@[simp] theorem onWatch_straps (s : State) (w : WatchNo) (f : WatchRecord → WatchRecord) : (s.onWatch w f).straps = s.straps := rfl
@[simp] theorem onWatch_drawn (s : State) (w : WatchNo) (f : WatchRecord → WatchRecord) : (s.onWatch w f).drawn = s.drawn := rfl
@[simp] theorem onWatch_tap (s : State) (w : WatchNo) (f : WatchRecord → WatchRecord) : (s.onWatch w f).tap = s.tap := rfl
@[simp] theorem onWatch_xc (s : State) (w : WatchNo) (f : WatchRecord → WatchRecord) : (s.onWatch w f).xc = s.xc := rfl
@[simp] theorem onWatch_notice_entries (s : State) (w : WatchNo) (f : WatchRecord → WatchRecord) : (s.onWatch w f).notice.entries = s.notice.entries := rfl
@[simp] theorem onWatch_notice_records (s : State) (w : WatchNo) (f : WatchRecord → WatchRecord) : (s.onWatch w f).notice.records = s.notice.records.set w (f (s.notice.records.get w)) := rfl
@[simp] theorem onWatch_notice_queue (s : State) (w : WatchNo) (f : WatchRecord → WatchRecord) : (s.onWatch w f).notice.queue = s.notice.queue := rfl
@[simp] theorem onWatch_notice_gates (s : State) (w : WatchNo) (f : WatchRecord → WatchRecord) : (s.onWatch w f).notice.gates = s.notice.gates := rfl
@[simp] theorem onWatch_notice_raised (s : State) (w : WatchNo) (f : WatchRecord → WatchRecord) : (s.onWatch w f).notice.raised = s.notice.raised := rfl
@[simp] theorem onWatch_notice_acknowledged (s : State) (w : WatchNo) (f : WatchRecord → WatchRecord) : (s.onWatch w f).notice.acknowledged = s.notice.acknowledged := rfl
@[simp] theorem onWatch_notice_lost (s : State) (w : WatchNo) (f : WatchRecord → WatchRecord) : (s.onWatch w f).notice.lost = s.notice.lost := rfl
@[simp] theorem onWatch_notice_withdrawn (s : State) (w : WatchNo) (f : WatchRecord → WatchRecord) : (s.onWatch w f).notice.withdrawn = s.notice.withdrawn := rfl
@[simp] theorem onWatch_notice_absorbedTotal (s : State) (w : WatchNo) (f : WatchRecord → WatchRecord) : (s.onWatch w f).notice.absorbedTotal = s.notice.absorbedTotal := rfl
@[simp] theorem onWatch_notice_tapReports (s : State) (w : WatchNo) (f : WatchRecord → WatchRecord) : (s.onWatch w f).notice.tapReports = s.notice.tapReports := rfl
@[simp] theorem onWatch_notice_pointReports (s : State) (w : WatchNo) (f : WatchRecord → WatchRecord) : (s.onWatch w f).notice.pointReports = s.notice.pointReports := rfl
@[simp] theorem onWatch_notice_inbox (s : State) (w : WatchNo) (f : WatchRecord → WatchRecord) : (s.onWatch w f).notice.inbox = s.notice.inbox := rfl
@[simp] theorem onWatch_delivery (s : State) (w : WatchNo) (f : WatchRecord → WatchRecord) : (s.onWatch w f).delivery = s.delivery := rfl
@[simp] theorem onWatch_publisher (s : State) (w : WatchNo) (f : WatchRecord → WatchRecord) : (s.onWatch w f).publisher = s.publisher := rfl
@[simp] theorem onWatch_cycle (s : State) (w : WatchNo) (f : WatchRecord → WatchRecord) : (s.onWatch w f).cycle = s.cycle := rfl
@[simp] theorem onWatch_trunk (s : State) (w : WatchNo) (f : WatchRecord → WatchRecord) : (s.onWatch w f).trunk = s.trunk := rfl
@[simp] theorem onWatch_field (s : State) (w : WatchNo) (f : WatchRecord → WatchRecord) : (s.onWatch w f).field = s.field := rfl
@[simp] theorem onWatch_bank (s : State) (w : WatchNo) (f : WatchRecord → WatchRecord) : (s.onWatch w f).bank = s.bank := rfl
@[simp] theorem onWatch_engine (s : State) (w : WatchNo) (f : WatchRecord → WatchRecord) : (s.onWatch w f).engine = s.engine := rfl
@[simp] theorem withQueue_pending (s : State) (q : List Notice) : (s.withQueue q).pending = s.pending := rfl
@[simp] theorem withQueue_resetLine (s : State) (q : List Notice) : (s.withQueue q).resetLine = s.resetLine := rfl
@[simp] theorem withQueue_straps (s : State) (q : List Notice) : (s.withQueue q).straps = s.straps := rfl
@[simp] theorem withQueue_drawn (s : State) (q : List Notice) : (s.withQueue q).drawn = s.drawn := rfl
@[simp] theorem withQueue_tap (s : State) (q : List Notice) : (s.withQueue q).tap = s.tap := rfl
@[simp] theorem withQueue_xc (s : State) (q : List Notice) : (s.withQueue q).xc = s.xc := rfl
@[simp] theorem withQueue_notice_entries (s : State) (q : List Notice) : (s.withQueue q).notice.entries = s.notice.entries := rfl
@[simp] theorem withQueue_notice_records (s : State) (q : List Notice) : (s.withQueue q).notice.records = s.notice.records := rfl
@[simp] theorem withQueue_notice_queue (s : State) (q : List Notice) : (s.withQueue q).notice.queue = q := rfl
@[simp] theorem withQueue_notice_gates (s : State) (q : List Notice) : (s.withQueue q).notice.gates = s.notice.gates := rfl
@[simp] theorem withQueue_notice_raised (s : State) (q : List Notice) : (s.withQueue q).notice.raised = s.notice.raised := rfl
@[simp] theorem withQueue_notice_acknowledged (s : State) (q : List Notice) : (s.withQueue q).notice.acknowledged = s.notice.acknowledged := rfl
@[simp] theorem withQueue_notice_lost (s : State) (q : List Notice) : (s.withQueue q).notice.lost = s.notice.lost := rfl
@[simp] theorem withQueue_notice_withdrawn (s : State) (q : List Notice) : (s.withQueue q).notice.withdrawn = s.notice.withdrawn := rfl
@[simp] theorem withQueue_notice_absorbedTotal (s : State) (q : List Notice) : (s.withQueue q).notice.absorbedTotal = s.notice.absorbedTotal := rfl
@[simp] theorem withQueue_notice_tapReports (s : State) (q : List Notice) : (s.withQueue q).notice.tapReports = s.notice.tapReports := rfl
@[simp] theorem withQueue_notice_pointReports (s : State) (q : List Notice) : (s.withQueue q).notice.pointReports = s.notice.pointReports := rfl
@[simp] theorem withQueue_notice_inbox (s : State) (q : List Notice) : (s.withQueue q).notice.inbox = s.notice.inbox := rfl
@[simp] theorem withQueue_delivery (s : State) (q : List Notice) : (s.withQueue q).delivery = s.delivery := rfl
@[simp] theorem withQueue_publisher (s : State) (q : List Notice) : (s.withQueue q).publisher = s.publisher := rfl
@[simp] theorem withQueue_cycle (s : State) (q : List Notice) : (s.withQueue q).cycle = s.cycle := rfl
@[simp] theorem withQueue_trunk (s : State) (q : List Notice) : (s.withQueue q).trunk = s.trunk := rfl
@[simp] theorem withQueue_field (s : State) (q : List Notice) : (s.withQueue q).field = s.field := rfl
@[simp] theorem withQueue_bank (s : State) (q : List Notice) : (s.withQueue q).bank = s.bank := rfl
@[simp] theorem withQueue_engine (s : State) (q : List Notice) : (s.withQueue q).engine = s.engine := rfl
@[simp] theorem countLost_pending (s : State) : (countLost s).pending = s.pending := rfl
@[simp] theorem countLost_resetLine (s : State) : (countLost s).resetLine = s.resetLine := rfl
@[simp] theorem countLost_straps (s : State) : (countLost s).straps = s.straps := rfl
@[simp] theorem countLost_drawn (s : State) : (countLost s).drawn = s.drawn := rfl
@[simp] theorem countLost_tap (s : State) : (countLost s).tap = s.tap := rfl
@[simp] theorem countLost_xc (s : State) : (countLost s).xc = s.xc := rfl
@[simp] theorem countLost_notice_entries (s : State) : (countLost s).notice.entries = s.notice.entries := rfl
@[simp] theorem countLost_notice_records (s : State) : (countLost s).notice.records = s.notice.records := rfl
@[simp] theorem countLost_notice_queue (s : State) : (countLost s).notice.queue = s.notice.queue := rfl
@[simp] theorem countLost_notice_gates (s : State) : (countLost s).notice.gates = s.notice.gates := rfl
@[simp] theorem countLost_notice_raised (s : State) : (countLost s).notice.raised = s.notice.raised := rfl
@[simp] theorem countLost_notice_acknowledged (s : State) : (countLost s).notice.acknowledged = s.notice.acknowledged := rfl
@[simp] theorem countLost_notice_lost (s : State) : (countLost s).notice.lost = s.notice.lost + 1 := rfl
@[simp] theorem countLost_notice_withdrawn (s : State) : (countLost s).notice.withdrawn = s.notice.withdrawn := rfl
@[simp] theorem countLost_notice_absorbedTotal (s : State) : (countLost s).notice.absorbedTotal = s.notice.absorbedTotal := rfl
@[simp] theorem countLost_notice_tapReports (s : State) : (countLost s).notice.tapReports = s.notice.tapReports := rfl
@[simp] theorem countLost_notice_pointReports (s : State) : (countLost s).notice.pointReports = s.notice.pointReports := rfl
@[simp] theorem countLost_notice_inbox (s : State) : (countLost s).notice.inbox = s.notice.inbox := rfl
@[simp] theorem countLost_delivery (s : State) : (countLost s).delivery = s.delivery := rfl
@[simp] theorem countLost_publisher (s : State) : (countLost s).publisher = s.publisher := rfl
@[simp] theorem countLost_cycle (s : State) : (countLost s).cycle = s.cycle := rfl
@[simp] theorem countLost_trunk (s : State) : (countLost s).trunk = s.trunk := rfl
@[simp] theorem countLost_field (s : State) : (countLost s).field = s.field := rfl
@[simp] theorem countLost_bank (s : State) : (countLost s).bank = s.bank := rfl
@[simp] theorem countLost_engine (s : State) : (countLost s).engine = s.engine := rfl

/-! ### A group's publish runtime changed -/

@[simp] theorem onGroup_pending (s : State) (g : GroupNo) (f : PublishRuntime → PublishRuntime) : (s.onGroup g f).pending = s.pending := rfl
@[simp] theorem onGroup_resetLine (s : State) (g : GroupNo) (f : PublishRuntime → PublishRuntime) : (s.onGroup g f).resetLine = s.resetLine := rfl
@[simp] theorem onGroup_straps (s : State) (g : GroupNo) (f : PublishRuntime → PublishRuntime) : (s.onGroup g f).straps = s.straps := rfl
@[simp] theorem onGroup_drawn (s : State) (g : GroupNo) (f : PublishRuntime → PublishRuntime) : (s.onGroup g f).drawn = s.drawn := rfl
@[simp] theorem onGroup_tap (s : State) (g : GroupNo) (f : PublishRuntime → PublishRuntime) : (s.onGroup g f).tap = s.tap := rfl
@[simp] theorem onGroup_xc (s : State) (g : GroupNo) (f : PublishRuntime → PublishRuntime) : (s.onGroup g f).xc = s.xc := rfl
@[simp] theorem onGroup_notice (s : State) (g : GroupNo) (f : PublishRuntime → PublishRuntime) : (s.onGroup g f).notice = s.notice := rfl
@[simp] theorem onGroup_delivery (s : State) (g : GroupNo) (f : PublishRuntime → PublishRuntime) : (s.onGroup g f).delivery = s.delivery := rfl
@[simp] theorem onGroup_publisher_entries (s : State) (g : GroupNo) (f : PublishRuntime → PublishRuntime) : (s.onGroup g f).publisher.entries = s.publisher.entries := rfl
@[simp] theorem onGroup_publisher_records (s : State) (g : GroupNo) (f : PublishRuntime → PublishRuntime) : (s.onGroup g f).publisher.records = s.publisher.records.set g (f (s.publisher.records.get g)) := rfl
@[simp] theorem onGroup_publisher_generation (s : State) (g : GroupNo) (f : PublishRuntime → PublishRuntime) : (s.onGroup g f).publisher.generation = s.publisher.generation := rfl
@[simp] theorem onGroup_publisher_reports (s : State) (g : GroupNo) (f : PublishRuntime → PublishRuntime) : (s.onGroup g f).publisher.reports = s.publisher.reports := rfl
@[simp] theorem onGroup_publisher_inbox (s : State) (g : GroupNo) (f : PublishRuntime → PublishRuntime) : (s.onGroup g f).publisher.inbox = s.publisher.inbox := rfl
@[simp] theorem onGroup_cycle (s : State) (g : GroupNo) (f : PublishRuntime → PublishRuntime) : (s.onGroup g f).cycle = s.cycle := rfl
@[simp] theorem onGroup_trunk (s : State) (g : GroupNo) (f : PublishRuntime → PublishRuntime) : (s.onGroup g f).trunk = s.trunk := rfl
@[simp] theorem onGroup_field (s : State) (g : GroupNo) (f : PublishRuntime → PublishRuntime) : (s.onGroup g f).field = s.field := rfl
@[simp] theorem onGroup_bank (s : State) (g : GroupNo) (f : PublishRuntime → PublishRuntime) : (s.onGroup g f).bank = s.bank := rfl
@[simp] theorem onGroup_engine (s : State) (g : GroupNo) (f : PublishRuntime → PublishRuntime) : (s.onGroup g f).engine = s.engine := rfl

/-! ### Reports and cycle starts sent on their way -/

@[simp] theorem reportTaps_pending (k : Nat) (rs : List TapReport) (s : State) : (reportTaps k rs s).pending = s.pending := rfl
@[simp] theorem reportTaps_resetLine (k : Nat) (rs : List TapReport) (s : State) : (reportTaps k rs s).resetLine = s.resetLine := rfl
@[simp] theorem reportTaps_straps (k : Nat) (rs : List TapReport) (s : State) : (reportTaps k rs s).straps = s.straps := rfl
@[simp] theorem reportTaps_drawn (k : Nat) (rs : List TapReport) (s : State) : (reportTaps k rs s).drawn = s.drawn := rfl
@[simp] theorem reportTaps_tap (k : Nat) (rs : List TapReport) (s : State) : (reportTaps k rs s).tap = s.tap := rfl
@[simp] theorem reportTaps_xc_entries (k : Nat) (rs : List TapReport) (s : State) : (reportTaps k rs s).xc.entries = s.xc.entries := rfl
@[simp] theorem reportTaps_xc_records (k : Nat) (rs : List TapReport) (s : State) : (reportTaps k rs s).xc.records = s.xc.records := rfl
@[simp] theorem reportTaps_xc_forces (k : Nat) (rs : List TapReport) (s : State) : (reportTaps k rs s).xc.forces = s.xc.forces := rfl
@[simp] theorem reportTaps_xc_reports (k : Nat) (rs : List TapReport) (s : State) : (reportTaps k rs s).xc.reports = s.xc.reports ++ rs := rfl
@[simp] theorem reportTaps_xc_inbox (k : Nat) (rs : List TapReport) (s : State) : (reportTaps k rs s).xc.inbox = s.xc.inbox := rfl
@[simp] theorem reportTaps_xc_unseen (k : Nat) (rs : List TapReport) (s : State) : (reportTaps k rs s).xc.unseen = k := rfl
@[simp] theorem reportTaps_notice_entries (k : Nat) (rs : List TapReport) (s : State) : (reportTaps k rs s).notice.entries = s.notice.entries := rfl
@[simp] theorem reportTaps_notice_records (k : Nat) (rs : List TapReport) (s : State) : (reportTaps k rs s).notice.records = s.notice.records := rfl
@[simp] theorem reportTaps_notice_queue (k : Nat) (rs : List TapReport) (s : State) : (reportTaps k rs s).notice.queue = s.notice.queue := rfl
@[simp] theorem reportTaps_notice_gates (k : Nat) (rs : List TapReport) (s : State) : (reportTaps k rs s).notice.gates = s.notice.gates := rfl
@[simp] theorem reportTaps_notice_raised (k : Nat) (rs : List TapReport) (s : State) : (reportTaps k rs s).notice.raised = s.notice.raised := rfl
@[simp] theorem reportTaps_notice_acknowledged (k : Nat) (rs : List TapReport) (s : State) : (reportTaps k rs s).notice.acknowledged = s.notice.acknowledged := rfl
@[simp] theorem reportTaps_notice_lost (k : Nat) (rs : List TapReport) (s : State) : (reportTaps k rs s).notice.lost = s.notice.lost := rfl
@[simp] theorem reportTaps_notice_withdrawn (k : Nat) (rs : List TapReport) (s : State) : (reportTaps k rs s).notice.withdrawn = s.notice.withdrawn := rfl
@[simp] theorem reportTaps_notice_absorbedTotal (k : Nat) (rs : List TapReport) (s : State) : (reportTaps k rs s).notice.absorbedTotal = s.notice.absorbedTotal := rfl
@[simp] theorem reportTaps_notice_tapReports (k : Nat) (rs : List TapReport) (s : State) : (reportTaps k rs s).notice.tapReports = s.notice.tapReports ++ rs := rfl
@[simp] theorem reportTaps_notice_pointReports (k : Nat) (rs : List TapReport) (s : State) : (reportTaps k rs s).notice.pointReports = s.notice.pointReports := rfl
@[simp] theorem reportTaps_notice_inbox (k : Nat) (rs : List TapReport) (s : State) : (reportTaps k rs s).notice.inbox = s.notice.inbox := rfl
@[simp] theorem reportTaps_delivery (k : Nat) (rs : List TapReport) (s : State) : (reportTaps k rs s).delivery = s.delivery := rfl
@[simp] theorem reportTaps_publisher (k : Nat) (rs : List TapReport) (s : State) : (reportTaps k rs s).publisher = s.publisher := rfl
@[simp] theorem reportTaps_cycle (k : Nat) (rs : List TapReport) (s : State) : (reportTaps k rs s).cycle = s.cycle := rfl
@[simp] theorem reportTaps_trunk (k : Nat) (rs : List TapReport) (s : State) : (reportTaps k rs s).trunk = s.trunk := rfl
@[simp] theorem reportTaps_field (k : Nat) (rs : List TapReport) (s : State) : (reportTaps k rs s).field = s.field := rfl
@[simp] theorem reportTaps_bank (k : Nat) (rs : List TapReport) (s : State) : (reportTaps k rs s).bank = s.bank := rfl
@[simp] theorem reportTaps_engine (k : Nat) (rs : List TapReport) (s : State) : (reportTaps k rs s).engine = s.engine := rfl
@[simp] theorem reportPoints_pending (k : Nat) (rs : List PointReport) (s : State) : (reportPoints k rs s).pending = s.pending := rfl
@[simp] theorem reportPoints_resetLine (k : Nat) (rs : List PointReport) (s : State) : (reportPoints k rs s).resetLine = s.resetLine := rfl
@[simp] theorem reportPoints_straps (k : Nat) (rs : List PointReport) (s : State) : (reportPoints k rs s).straps = s.straps := rfl
@[simp] theorem reportPoints_drawn (k : Nat) (rs : List PointReport) (s : State) : (reportPoints k rs s).drawn = s.drawn := rfl
@[simp] theorem reportPoints_tap (k : Nat) (rs : List PointReport) (s : State) : (reportPoints k rs s).tap = s.tap := rfl
@[simp] theorem reportPoints_xc (k : Nat) (rs : List PointReport) (s : State) : (reportPoints k rs s).xc = s.xc := rfl
@[simp] theorem reportPoints_notice_entries (k : Nat) (rs : List PointReport) (s : State) : (reportPoints k rs s).notice.entries = s.notice.entries := rfl
@[simp] theorem reportPoints_notice_records (k : Nat) (rs : List PointReport) (s : State) : (reportPoints k rs s).notice.records = s.notice.records := rfl
@[simp] theorem reportPoints_notice_queue (k : Nat) (rs : List PointReport) (s : State) : (reportPoints k rs s).notice.queue = s.notice.queue := rfl
@[simp] theorem reportPoints_notice_gates (k : Nat) (rs : List PointReport) (s : State) : (reportPoints k rs s).notice.gates = s.notice.gates := rfl
@[simp] theorem reportPoints_notice_raised (k : Nat) (rs : List PointReport) (s : State) : (reportPoints k rs s).notice.raised = s.notice.raised := rfl
@[simp] theorem reportPoints_notice_acknowledged (k : Nat) (rs : List PointReport) (s : State) : (reportPoints k rs s).notice.acknowledged = s.notice.acknowledged := rfl
@[simp] theorem reportPoints_notice_lost (k : Nat) (rs : List PointReport) (s : State) : (reportPoints k rs s).notice.lost = s.notice.lost := rfl
@[simp] theorem reportPoints_notice_withdrawn (k : Nat) (rs : List PointReport) (s : State) : (reportPoints k rs s).notice.withdrawn = s.notice.withdrawn := rfl
@[simp] theorem reportPoints_notice_absorbedTotal (k : Nat) (rs : List PointReport) (s : State) : (reportPoints k rs s).notice.absorbedTotal = s.notice.absorbedTotal := rfl
@[simp] theorem reportPoints_notice_tapReports (k : Nat) (rs : List PointReport) (s : State) : (reportPoints k rs s).notice.tapReports = s.notice.tapReports := rfl
@[simp] theorem reportPoints_notice_pointReports (k : Nat) (rs : List PointReport) (s : State) : (reportPoints k rs s).notice.pointReports = s.notice.pointReports ++ rs.map fun r => ⟨r, k⟩ := rfl
@[simp] theorem reportPoints_notice_inbox (k : Nat) (rs : List PointReport) (s : State) : (reportPoints k rs s).notice.inbox = s.notice.inbox := rfl
@[simp] theorem reportPoints_delivery (k : Nat) (rs : List PointReport) (s : State) : (reportPoints k rs s).delivery = s.delivery := rfl
@[simp] theorem reportPoints_publisher_entries (k : Nat) (rs : List PointReport) (s : State) : (reportPoints k rs s).publisher.entries = s.publisher.entries := rfl
@[simp] theorem reportPoints_publisher_records (k : Nat) (rs : List PointReport) (s : State) : (reportPoints k rs s).publisher.records = s.publisher.records := rfl
@[simp] theorem reportPoints_publisher_generation (k : Nat) (rs : List PointReport) (s : State) : (reportPoints k rs s).publisher.generation = s.publisher.generation := rfl
@[simp] theorem reportPoints_publisher_reports (k : Nat) (rs : List PointReport) (s : State) : (reportPoints k rs s).publisher.reports = s.publisher.reports ++ rs := rfl
@[simp] theorem reportPoints_publisher_inbox (k : Nat) (rs : List PointReport) (s : State) : (reportPoints k rs s).publisher.inbox = s.publisher.inbox := rfl
@[simp] theorem reportPoints_cycle (k : Nat) (rs : List PointReport) (s : State) : (reportPoints k rs s).cycle = s.cycle := rfl
@[simp] theorem reportPoints_trunk (k : Nat) (rs : List PointReport) (s : State) : (reportPoints k rs s).trunk = s.trunk := rfl
@[simp] theorem reportPoints_field (k : Nat) (rs : List PointReport) (s : State) : (reportPoints k rs s).field = s.field := rfl
@[simp] theorem reportPoints_bank (k : Nat) (rs : List PointReport) (s : State) : (reportPoints k rs s).bank = s.bank := rfl
@[simp] theorem reportPoints_engine (k : Nat) (rs : List PointReport) (s : State) : (reportPoints k rs s).engine = s.engine := rfl
@[simp] theorem passCycleStart_pending (c : CycleStart) (s : State) : (passCycleStart c s).pending = s.pending := rfl
@[simp] theorem passCycleStart_resetLine (c : CycleStart) (s : State) : (passCycleStart c s).resetLine = s.resetLine := rfl
@[simp] theorem passCycleStart_straps (c : CycleStart) (s : State) : (passCycleStart c s).straps = s.straps := rfl
@[simp] theorem passCycleStart_drawn (c : CycleStart) (s : State) : (passCycleStart c s).drawn = s.drawn := rfl
@[simp] theorem passCycleStart_tap_entries (c : CycleStart) (s : State) : (passCycleStart c s).tap.entries = s.tap.entries := rfl
@[simp] theorem passCycleStart_tap_records (c : CycleStart) (s : State) : (passCycleStart c s).tap.records = s.tap.records := rfl
@[simp] theorem passCycleStart_tap_inbox (c : CycleStart) (s : State) : (passCycleStart c s).tap.inbox = s.tap.inbox ++ [c] := rfl
@[simp] theorem passCycleStart_xc_entries (c : CycleStart) (s : State) : (passCycleStart c s).xc.entries = s.xc.entries := rfl
@[simp] theorem passCycleStart_xc_records (c : CycleStart) (s : State) : (passCycleStart c s).xc.records = s.xc.records := rfl
@[simp] theorem passCycleStart_xc_forces (c : CycleStart) (s : State) : (passCycleStart c s).xc.forces = s.xc.forces := rfl
@[simp] theorem passCycleStart_xc_reports (c : CycleStart) (s : State) : (passCycleStart c s).xc.reports = s.xc.reports := rfl
@[simp] theorem passCycleStart_xc_unseen (c : CycleStart) (s : State) : (passCycleStart c s).xc.unseen = s.xc.unseen := rfl
@[simp] theorem passCycleStart_xc_inbox (c : CycleStart) (s : State) : (passCycleStart c s).xc.inbox = s.xc.inbox ++ [c] := rfl
@[simp] theorem passCycleStart_notice_entries (c : CycleStart) (s : State) : (passCycleStart c s).notice.entries = s.notice.entries := rfl
@[simp] theorem passCycleStart_notice_records (c : CycleStart) (s : State) : (passCycleStart c s).notice.records = s.notice.records := rfl
@[simp] theorem passCycleStart_notice_queue (c : CycleStart) (s : State) : (passCycleStart c s).notice.queue = s.notice.queue := rfl
@[simp] theorem passCycleStart_notice_gates (c : CycleStart) (s : State) : (passCycleStart c s).notice.gates = s.notice.gates := rfl
@[simp] theorem passCycleStart_notice_raised (c : CycleStart) (s : State) : (passCycleStart c s).notice.raised = s.notice.raised := rfl
@[simp] theorem passCycleStart_notice_acknowledged (c : CycleStart) (s : State) : (passCycleStart c s).notice.acknowledged = s.notice.acknowledged := rfl
@[simp] theorem passCycleStart_notice_lost (c : CycleStart) (s : State) : (passCycleStart c s).notice.lost = s.notice.lost := rfl
@[simp] theorem passCycleStart_notice_withdrawn (c : CycleStart) (s : State) : (passCycleStart c s).notice.withdrawn = s.notice.withdrawn := rfl
@[simp] theorem passCycleStart_notice_absorbedTotal (c : CycleStart) (s : State) : (passCycleStart c s).notice.absorbedTotal = s.notice.absorbedTotal := rfl
@[simp] theorem passCycleStart_notice_tapReports (c : CycleStart) (s : State) : (passCycleStart c s).notice.tapReports = s.notice.tapReports := rfl
@[simp] theorem passCycleStart_notice_pointReports (c : CycleStart) (s : State) : (passCycleStart c s).notice.pointReports = s.notice.pointReports := rfl
@[simp] theorem passCycleStart_notice_inbox (c : CycleStart) (s : State) : (passCycleStart c s).notice.inbox = s.notice.inbox ++ [c] := rfl
@[simp] theorem passCycleStart_delivery_budget (c : CycleStart) (s : State) : (passCycleStart c s).delivery.budget = s.delivery.budget := rfl
@[simp] theorem passCycleStart_delivery_retryInterval (c : CycleStart) (s : State) : (passCycleStart c s).delivery.retryInterval = s.delivery.retryInterval := rfl
@[simp] theorem passCycleStart_delivery_attempts (c : CycleStart) (s : State) : (passCycleStart c s).delivery.attempts = s.delivery.attempts := rfl
@[simp] theorem passCycleStart_delivery_inFlight (c : CycleStart) (s : State) : (passCycleStart c s).delivery.inFlight = s.delivery.inFlight := rfl
@[simp] theorem passCycleStart_delivery_sequence (c : CycleStart) (s : State) : (passCycleStart c s).delivery.sequence = s.delivery.sequence := rfl
@[simp] theorem passCycleStart_delivery_inbox (c : CycleStart) (s : State) : (passCycleStart c s).delivery.inbox = s.delivery.inbox ++ [c] := rfl
@[simp] theorem passCycleStart_publisher_entries (c : CycleStart) (s : State) : (passCycleStart c s).publisher.entries = s.publisher.entries := rfl
@[simp] theorem passCycleStart_publisher_records (c : CycleStart) (s : State) : (passCycleStart c s).publisher.records = s.publisher.records := rfl
@[simp] theorem passCycleStart_publisher_generation (c : CycleStart) (s : State) : (passCycleStart c s).publisher.generation = s.publisher.generation := rfl
@[simp] theorem passCycleStart_publisher_reports (c : CycleStart) (s : State) : (passCycleStart c s).publisher.reports = s.publisher.reports := rfl
@[simp] theorem passCycleStart_publisher_inbox (c : CycleStart) (s : State) : (passCycleStart c s).publisher.inbox = s.publisher.inbox ++ [c] := rfl
@[simp] theorem passCycleStart_cycle (c : CycleStart) (s : State) : (passCycleStart c s).cycle = s.cycle := rfl
@[simp] theorem passCycleStart_trunk (c : CycleStart) (s : State) : (passCycleStart c s).trunk = s.trunk := rfl
@[simp] theorem passCycleStart_field (c : CycleStart) (s : State) : (passCycleStart c s).field = s.field := rfl
@[simp] theorem passCycleStart_bank (c : CycleStart) (s : State) : (passCycleStart c s).bank = s.bank := rfl
@[simp] theorem passCycleStart_engine (c : CycleStart) (s : State) : (passCycleStart c s).engine = s.engine := rfl
@[simp] theorem handOnCycleStart_pending (n : Word16) (s : State) : (handOnCycleStart n s).pending = s.pending := rfl
@[simp] theorem handOnCycleStart_resetLine (n : Word16) (s : State) : (handOnCycleStart n s).resetLine = s.resetLine := rfl
@[simp] theorem handOnCycleStart_straps (n : Word16) (s : State) : (handOnCycleStart n s).straps = s.straps := rfl
@[simp] theorem handOnCycleStart_drawn (n : Word16) (s : State) : (handOnCycleStart n s).drawn = s.drawn := rfl
@[simp] theorem handOnCycleStart_tap (n : Word16) (s : State) : (handOnCycleStart n s).tap = s.tap := rfl
@[simp] theorem handOnCycleStart_xc (n : Word16) (s : State) : (handOnCycleStart n s).xc = s.xc := rfl
@[simp] theorem handOnCycleStart_notice (n : Word16) (s : State) : (handOnCycleStart n s).notice = s.notice := rfl
@[simp] theorem handOnCycleStart_delivery (n : Word16) (s : State) : (handOnCycleStart n s).delivery = s.delivery := rfl
@[simp] theorem handOnCycleStart_publisher (n : Word16) (s : State) : (handOnCycleStart n s).publisher = s.publisher := rfl
@[simp] theorem handOnCycleStart_cycle_count (n : Word16) (s : State) : (handOnCycleStart n s).cycle.count = n := rfl
@[simp] theorem handOnCycleStart_cycle_state (n : Word16) (s : State) : (handOnCycleStart n s).cycle.state = s.cycle.state := rfl
@[simp] theorem handOnCycleStart_cycle_divide (n : Word16) (s : State) : (handOnCycleStart n s).cycle.divide = s.cycle.divide := rfl
@[simp] theorem handOnCycleStart_cycle_period (n : Word16) (s : State) : (handOnCycleStart n s).cycle.period = s.cycle.period := rfl
@[simp] theorem handOnCycleStart_cycle_watchLimit (n : Word16) (s : State) : (handOnCycleStart n s).cycle.watchLimit = s.cycle.watchLimit := rfl
@[simp] theorem handOnCycleStart_cycle_prescaleCount (n : Word16) (s : State) : (handOnCycleStart n s).cycle.prescaleCount = s.cycle.prescaleCount := rfl
@[simp] theorem handOnCycleStart_cycle_periodCount (n : Word16) (s : State) : (handOnCycleStart n s).cycle.periodCount = s.cycle.periodCount := rfl
@[simp] theorem handOnCycleStart_cycle_missed (n : Word16) (s : State) : (handOnCycleStart n s).cycle.missed = s.cycle.missed := rfl
@[simp] theorem handOnCycleStart_cycle_established (n : Word16) (s : State) : (handOnCycleStart n s).cycle.established = true := rfl
@[simp] theorem handOnCycleStart_cycle_skewCount (n : Word16) (s : State) : (handOnCycleStart n s).cycle.skewCount = s.cycle.skewCount := rfl
@[simp] theorem handOnCycleStart_cycle_conflictCount (n : Word16) (s : State) : (handOnCycleStart n s).cycle.conflictCount = s.cycle.conflictCount := rfl
@[simp] theorem handOnCycleStart_trunk (n : Word16) (s : State) : (handOnCycleStart n s).trunk = s.trunk := rfl
@[simp] theorem handOnCycleStart_field (n : Word16) (s : State) : (handOnCycleStart n s).field = s.field := rfl
@[simp] theorem handOnCycleStart_bank_active (n : Word16) (s : State) : (handOnCycleStart n s).bank.active = s.bank.active := rfl
@[simp] theorem handOnCycleStart_bank_shadow (n : Word16) (s : State) : (handOnCycleStart n s).bank.shadow = s.bank.shadow := rfl
@[simp] theorem handOnCycleStart_bank_state (n : Word16) (s : State) : (handOnCycleStart n s).bank.state = s.bank.state := rfl
@[simp] theorem handOnCycleStart_bank_owner (n : Word16) (s : State) : (handOnCycleStart n s).bank.owner = s.bank.owner := rfl
@[simp] theorem handOnCycleStart_bank_lease (n : Word16) (s : State) : (handOnCycleStart n s).bank.lease = s.bank.lease := rfl
@[simp] theorem handOnCycleStart_bank_leaseRemaining (n : Word16) (s : State) : (handOnCycleStart n s).bank.leaseRemaining = s.bank.leaseRemaining := rfl
@[simp] theorem handOnCycleStart_bank_target (n : Word16) (s : State) : (handOnCycleStart n s).bank.target = s.bank.target := rfl
@[simp] theorem handOnCycleStart_bank_targetPassed (n : Word16) (s : State) : (handOnCycleStart n s).bank.targetPassed = s.bank.targetPassed := rfl
@[simp] theorem handOnCycleStart_bank_generation (n : Word16) (s : State) : (handOnCycleStart n s).bank.generation = s.bank.generation := rfl
@[simp] theorem handOnCycleStart_bank_lastOutcome (n : Word16) (s : State) : (handOnCycleStart n s).bank.lastOutcome = s.bank.lastOutcome := rfl
@[simp] theorem handOnCycleStart_bank_firstError (n : Word16) (s : State) : (handOnCycleStart n s).bank.firstError = s.bank.firstError := rfl
@[simp] theorem handOnCycleStart_bank_inbox (n : Word16) (s : State) : (handOnCycleStart n s).bank.inbox = s.bank.inbox ++ [n] := rfl
@[simp] theorem handOnCycleStart_engine (n : Word16) (s : State) : (handOnCycleStart n s).engine = s.engine := rfl

end Sys2Proof.Machine
end

