-- ==== Sys2Proof/Laws/Tab.lean ====
section
/-! SUPPORT. What reading an entry of a table gives after each way of making or changing one. -/

namespace Sys2Proof

variable {n : Nat} {α : Type}

@[simp] theorem get_ofFn (f : Fin n → α) (i : Fin n) : (Tab.ofFn f).get i = f i := by
  simp only [Tab.ofFn, Tab.get, List.get_eq_getElem, List.getElem_ofFn]
  rfl

@[simp] theorem get_fill (a : α) (i : Fin n) : (Tab.fill n a).get i = a := by simp [Tab.fill, Tab.get]

theorem get_set (t : Tab n α) (i j : Fin n) (a : α) : (t.set i a).get j = if i = j then a else t.get j := by
  simp only [Tab.set, Tab.get, List.get_eq_getElem, List.getElem_set, Fin.ext_iff]
  rfl

@[simp] theorem get_set_self (t : Tab n α) (i : Fin n) (a : α) : (t.set i a).get i = a := by simp [get_set]

theorem get_set_ne (t : Tab n α) {i j : Fin n} (h : i ≠ j) (a : α) : (t.set i a).get j = t.get j := by
  simp [get_set, h]

/-- Two tables with the same entries are the same table. -/
theorem tab_ext {t u : Tab n α} (h : ∀ i, t.get i = u.get i) : t = u := by
  cases t with | mk a ha => cases u with | mk b hb =>
  have : a = b := by
    apply List.ext_get (by rw [ha, hb])
    intro k h1 h2
    exact h ⟨k, by omega⟩
  subst this; rfl

theorem ofFn_get (t : Tab n α) : Tab.ofFn t.get = t := tab_ext fun i => get_ofFn t.get i

theorem ofFn_const (a : α) : (Tab.ofFn fun _ : Fin n => a) = Tab.fill n a := tab_ext fun i => by simp

theorem set_get_self (t : Tab n α) (i : Fin n) : t.set i (t.get i) = t :=
  tab_ext fun j => by by_cases h : i = j <;> simp [get_set, h]

theorem set_set (t : Tab n α) (i : Fin n) (a b : α) : (t.set i a).set i b = t.set i b :=
  tab_ext fun j => by by_cases h : i = j <;> simp [get_set, h]

theorem indices_eq (n : Nat) : indices n = List.finRange n := by
  unfold indices; exact List.ofFn_id n

@[simp] theorem mem_indices (i : Fin n) : i ∈ indices n := by simp [indices_eq]

theorem indices_sorted (n : Nat) : (indices n).Pairwise (· < ·) := by
  rw [indices_eq]; exact List.pairwise_lt_finRange n

end Sys2Proof
end

