-- ==== Sys2Proof/Laws/Ops.lean ====
section
/-! SUPPORT. What each shared operation over a port, a report or a cycle start can do, in the words of
Safety.lean; which sources the cross-connect finds usable, and which points the publisher sees. -/

namespace Sys2Proof.Machine

/-! ### Placing a cell -/

theorem placeForward_eq (c : Cell) (ps : PortState) : placeForward c ps = forwardedTo c ps := by
  cases h : ps.line <;> simp [placeForward, forwardedTo, countDiscarded, countOn, h]

theorem placeDerived_eq (c : Cell) (ps : PortState) : placeDerived c ps = derivedPlacedFor c ps := by
  cases h : ps.line <;> simp [placeDerived, derivedPlacedFor, countDiscarded, countOn, h]

theorem placeNotice_eq (c : Cell) (ps : PortState) : placeNotice c ps = noticePlacedFor c ps := by
  cases h : ps.line <;> simp [placeNotice, noticePlacedFor, countDiscarded, countOn, h]

theorem placeCycle_eq (c : Cell) (ps : PortState) : placeCycle c ps = cyclePlacedFor c ps := by
  cases h : ps.line <;> cases hp : ps.cyclePlace <;> simp [placeCycle, cyclePlacedFor, countDiscarded, countOn, h, hp]

/-! ### Going DOWN -/

theorem transmitFill_eq (ps : PortState) : transmitFill ps = waitingCells ps := by
  unfold transmitFill waitingCells; cases ps.cyclePlace <;> simp

theorem downed_eq (ps : PortState) : downed ps = wentDown ps := by
  simp [downed, wentDown, transmitFill_eq, countOn, emptied]

/-- R117, R118, R169: everything that going DOWN does. -/
theorem goDown_eq (p : Port) (s : State) : goDown p s =
    { s with engine := { s.engine with
        indicators := s.engine.indicators ||| 0x010, state := flushedBy p s.engine.state } }.setPort p
      (wentDown (s.port p)) := by
  cases p
  · simp only [goDown, State.onPort, State.setPort, State.port, State.onEngineState, State.indicate, downed_eq,
      indicatorBit, flushedBy]
    rcases s.engine.state with _ | ⟨_, _ | _ | _⟩ <;> rfl
  · simp [goDown, State.onPort, State.setPort, State.port, State.indicate, downed_eq, indicatorBit, flushedBy]

/-! ### Reports and cycle starts -/

theorem reportPoints_eq (behind : Nat) (reps : List PointReport) (s : State) :
    reportPoints behind reps s = toldOfPoints s behind reps := rfl

theorem passCycleStart_eq (c : CycleStart) (s : State) : passCycleStart c s = passedOn s c := rfl

/-- R39: reports made point by point over the whole point table are the reports of the change. -/
theorem reports_of (before after : PointNo → PointFace) :
    ReportsOf before after ((indices 128).filterMap fun p => pointReport p (before p) (after p)) := by
  constructor
  · intro p x y
    simp only [List.mem_filterMap, mem_indices, true_and, pointReport]
    constructor
    · rintro ⟨q, hq⟩
      split at hq
      · cases hq
      · next h => cases hq; exact ⟨rfl, rfl, by simpa using h⟩
    · rintro ⟨rfl, rfl, h⟩
      exact ⟨p, by simp [h]⟩
  · have h := indices_sorted 128
    rw [List.pairwise_map, List.pairwise_filterMap]
    refine h.imp fun {a b} hab x hx y hy => ?_
    simp only [pointReport] at hx hy
    split at hx <;> split at hy <;> simp_all
    rw [← hx, ← hy]; exact hab

/-! ### What one block reads of another -/

/-- R45: a run of cycle starts changes a tap's entry when one of them brings a bank with another entry for it. -/
theorem swapsChange_iff (t : TapNo) (l : List CycleStart) (entries : Tab 192 TapEntry) :
    swapsChange t entries l = true ↔ ∃ c ∈ l, ∃ w, c.swap = some w ∧ w.bank.taps.get t ≠ entries.get t := by
  induction l generalizing entries with
  | nil => simp [swapsChange]
  | cons c l ih =>
    simp only [swapsChange, Bool.or_eq_true, bne_iff_ne, ne_eq, ih, List.exists_mem_cons_iff]
    cases h : c.swap with
    | none => simp [tapEntriesAfter, h]
    | some w =>
      simp only [tapEntriesAfter, h, Option.some.injEq, exists_eq_left']
      by_cases he : w.bank.taps.get t = entries.get t
      · simp [he]
      · simp [he, Ne.symm he]

/-- R28, R45: what the cross-connect reads of a source. -/
theorem sourceValue_eq (s : State) (t : TapNo) :
    let usable := (s.tap.records.get t).cond = .live ∧
      ∀ c ∈ s.tap.inbox.take (s.tap.inbox.length - s.xc.inbox.length), ∀ w, c.swap = some w →
        w.bank.taps.get t = s.tap.entries.get t
    (usable → sourceValue s t = some (s.tap.records.get t).qualified) ∧ (¬usable → sourceValue s t = none) := by
  intro usable
  have h : takenAsInitial s t = false ↔
      ∀ c ∈ s.tap.inbox.take (s.tap.inbox.length - s.xc.inbox.length), ∀ w, c.swap = some w →
        w.bank.taps.get t = s.tap.entries.get t := by
    rw [takenAsInitial, Bool.eq_false_iff, ne_eq, swapsChange_iff]; simp
  have hs : sourceValue s t =
      if (s.tap.records.get t).cond = .live ∧ takenAsInitial s t = false then some (s.tap.records.get t).qualified
      else none := by simp [sourceValue]
  rw [hs]; exact ⟨fun hu => if_pos ⟨hu.1, h.2 hu.2⟩, fun hu => if_neg fun x => hu ⟨x.1, h.1 x.2⟩⟩

/-- R38: how many unsampled taps the cross-connect finds, at most those of the newest cell whose reports wait. -/
theorem unseenAt_eq (rest : List TapReport) (s : State) :
    unseenAt rest s = min (min s.xc.unseen rest.length) (Config.samplesUnseen s.drawn) := by
  unfold unseenAt; split
  · next h => rw [h]; simp
  · rfl

/-- R38: a tap is found as it stood before the first of its reports, and as it stands when it has none. -/
@[simp] theorem beforeReports_get (l : List TapReport) (u : TapUnit) (t : TapNo) : (beforeReports l u).records.get t =
    match l.find? fun x => x.tap == t with
    | some x => { u.records.get t with qualified := x.before.value, cond := x.before.cond }
    | none => u.records.get t := by
  refine (get_ofFn _ t).trans ?_
  cases l.find? fun x => x.tap == t <;> rfl

/-- R93, R95: with no report on a point waiting, the publisher sees it as it stands. -/
theorem pointSeen_taken (s : State) (p : PointNo) (h : ∀ r ∈ s.publisher.reports, r.point ≠ p) :
    pointSeen s p = pointFace (s.xc.forces.get p) (s.xc.records.get p) := by
  rw [pointSeen, List.find?_eq_none.2 (by simpa using h)]

/-- R95: the publisher sees a point as it stood before the first report on it that waits. -/
theorem pointSeen_waiting (s : State) (p : PointNo) (l : List PointReport) (r : PointReport) (l' : List PointReport)
    (h : s.publisher.reports = l ++ r :: l') (hl : ∀ x ∈ l, x.point ≠ p) (hr : r.point = p) :
    pointSeen s p = r.before := by
  have hf : s.publisher.reports.find? (fun r => r.point == p) = some r := by
    rw [h, List.find?_append, List.find?_eq_none.2 (by simpa using hl)]; simp [hr]
  rw [pointSeen, hf]

/-! ### The held reset line -/

@[simp] theorem unlessHeld_free {s : State} (h : s.resetLine = false) (t : State) : unlessHeld s t = t := by
  simp [unlessHeld, h]

@[simp] theorem unlessHeld_held {s : State} (h : s.resetLine = true) (t : State) : unlessHeld s t = s := by
  simp [unlessHeld, h]

end Sys2Proof.Machine
end

