-- ==== Sys2Proof/Laws/Requests.lean ====
section
/-! SUPPORT. What the taking of a request can do. -/

namespace Sys2Proof.Machine

/-- R160: the record that is ready is the one the engine takes. -/
theorem taken_of_ready {s : State} {r : Request} {op : Byte} (h : Ready s r op) : taken s = some r := by
  obtain ⟨hl, he, ht, hq, -⟩ := h
  simp [taken, canTake, hl, he, hq, Config.responseCapacity, ht]

/-- R160 to R163: the taking of a ready request is its run on the state without its record, and its response. -/
theorem takeIf_ready {s : State} {r : Request} {op : Byte} (h : Ready s r op) (wanted : Byte → Bool)
    (run : Request → State → State × Answer) (hw : wanted op = true) :
    takeIf wanted run s = respond r (run r (dequeued r s)).2 (run r (dequeued r s)).1 := by
  simp [takeIf, taken_of_ready h, h.2.2.2.2, hw]

/-- A request command either changes nothing or is the taking of the head record. -/
theorem takeIf_cases (wanted : Byte → Bool) (run : Request → State → State × Answer) (s : State) :
    takeIf wanted run s = s ∨ ∃ r op, Ready s r op ∧ wanted op = true ∧
      takeIf wanted run s = respond r (run r (dequeued r s)).2 (run r (dequeued r s)).1 := by
  cases ht : taken s with
  | none => left; simp [takeIf, ht]
  | some r =>
    by_cases hw : wanted r.operation = true
    · right
      have hr : Ready s r r.operation := by
        simp only [taken] at ht
        split at ht
        · next hc =>
          simp [canTake, Config.responseCapacity] at hc
          exact ⟨hc.1.1, hc.1.2, hc.2, ht, rfl⟩
        · cases ht
      exact ⟨r, _, hr, hw, takeIf_ready hr wanted run hw⟩
    · left; simp [takeIf, ht, hw]

/-- R162: a response changes the trunk port alone. -/
theorem respond_eq (r : Request) (a : Answer) (s : State) : respond r a s = { s with
    trunk := if s.trunk.line = .up then
        { s.trunk with response := s.trunk.response ++ [withCheck
          ⟨6, 0, s.engine.station, 0, r.originator, r.tag, r.operation ++ resultCode a.result ++ packData a.data,
            r.arrival, 0⟩] }
      else { s.trunk with counters := { s.trunk.counters with
        discardedDown := s.trunk.counters.discardedDown + 1 } } } := by
  cases h : s.trunk.line <;> simp [respond, placeResponse, makeResponseCell, countDiscarded, countOn, h]

theorem reloadLease_eq (o : Originator) (b : BankUnit) : reloadLease o b = { b with
    leaseRemaining := if b.state = .editing ∧ b.owner = some o then b.lease else b.leaseRemaining } := by
  unfold reloadLease
  by_cases h : b.state = .editing ∧ b.owner = some o
  · simp [h]
  · have : ¬(b.state == .editing && b.owner == some o) = true := by simpa using h
    rw [if_neg this, if_neg h]

/-- R160 to R163: a request that changes nothing of its own is answered, and that is all. -/
theorem respond_dequeued (r : Request) (a : Answer) (s : State) :
    respond r a (dequeued r s) = answered s r (resultCode a.result) a.data := by
  simp [respond_eq, dequeued, reloadLease_eq, answered]

end Sys2Proof.Machine
end

