-- ==== Sys2Proof/Laws/Frames.lean ====
section
/-! SUPPORT. What the work of each block leaves alone: frames for the operations that touch neither the
bank unit nor cycle timing. -/

namespace Sys2Proof.Machine

/-- The queue of commands, the reset line, the straps, the station number, the bank unit and cycle timing are as
they were. -/
structure Steady (s t : State) : Prop where
  pending   : t.pending = s.pending
  resetLine : t.resetLine = s.resetLine
  straps    : t.straps = s.straps
  station   : t.engine.station = s.engine.station
  bank      : t.bank = s.bank
  cycle     : t.cycle = s.cycle

theorem Steady.rfl {s : State} : Steady s s := ⟨Eq.refl _, Eq.refl _, Eq.refl _, Eq.refl _, Eq.refl _, Eq.refl _⟩

theorem Steady.trans {s t u : State} (h : Steady s t) (k : Steady t u) : Steady s u :=
  ⟨k.1.trans h.1, k.2.trans h.2, k.3.trans h.3, k.4.trans h.4, k.5.trans h.5, k.6.trans h.6⟩

theorem Steady.foldl {α : Type} {f : State → α → State} (h : ∀ s a, Steady s (f s a)) (l : List α) (s : State) :
    Steady s (l.foldl f s) := by
  induction l generalizing s with
  | nil => exact .rfl
  | cons a l ih => exact (h s a).trans (ih _)

theorem Steady.ite {s t u : State} {p : Prop} [Decidable p] (h : Steady s t) (k : Steady s u) :
    Steady s (if p then t else u) := by split <;> assumption

theorem Steady.unlessHeld {s t : State} (h : Steady s t) : Steady s (unlessHeld s t) := .ite .rfl h

/-! ### The shared operations -/

theorem steady_setPort (s : State) (p : Port) (ps : PortState) : Steady s (s.setPort p ps) := by
  cases p <;> exact ⟨rfl, rfl, rfl, rfl, rfl, rfl⟩

theorem steady_onPort (s : State) (p : Port) (f : PortState → PortState) : Steady s (s.onPort p f) :=
  steady_setPort s p _

theorem steady_indicate (s : State) (i : Indicator) : Steady s (s.indicate i) := ⟨rfl, rfl, rfl, rfl, rfl, rfl⟩

theorem steady_onEngineState (s : State) (f : EngineState → EngineState) : Steady s (s.onEngineState f) :=
  ⟨rfl, rfl, rfl, rfl, rfl, rfl⟩

theorem steady_reportTaps (k : Nat) (rs : List TapReport) (s : State) : Steady s (reportTaps k rs s) :=
  ⟨rfl, rfl, rfl, rfl, rfl, rfl⟩

theorem steady_reportPoints (k : Nat) (rs : List PointReport) (s : State) : Steady s (reportPoints k rs s) :=
  ⟨rfl, rfl, rfl, rfl, rfl, rfl⟩

theorem steady_withNotice (s : State) (u : NoticeUnit) : Steady s { s with notice := u } :=
  ⟨rfl, rfl, rfl, rfl, rfl, rfl⟩

theorem steady_withDelivery (s : State) (u : DeliveryUnit) : Steady s { s with delivery := u } :=
  ⟨rfl, rfl, rfl, rfl, rfl, rfl⟩

theorem steady_withPublisher (s : State) (u : Publisher) : Steady s { s with publisher := u } :=
  ⟨rfl, rfl, rfl, rfl, rfl, rfl⟩

/-! ### The tap unit -/

theorem steady_offerToTaps (p : Port) (c : Cell) (s : State) : Steady s (offerToTaps p c s) := by
  unfold offerToTaps
  split
  · exact ⟨rfl, rfl, rfl, rfl, rfl, rfl⟩
  · exact .ite (steady_onPort ..) .rfl

theorem steady_tapUnitTakes (s : State) : Steady s (tapUnitTakes s) := by
  unfold tapUnitTakes
  split
  · exact .rfl
  · exact .unlessHeld ⟨rfl, rfl, rfl, rfl, rfl, rfl⟩

/-! ### The cross-connect -/

theorem steady_xcTakeReport (r : TapReport) (rest : List TapReport) (s : State) : Steady s (xcTakeReport r rest s) :=
  ⟨rfl, rfl, rfl, rfl, rfl, rfl⟩

theorem steady_setForce (p : PointNo) (f : Option ForceRecord) (s : State) : Steady s (setForce p f s) :=
  ⟨rfl, rfl, rfl, rfl, rfl, rfl⟩

theorem steady_xcCycle (c : CycleStart) (rest : List CycleStart) (s : State) : Steady s (xcCycle c rest s) := by
  unfold xcCycle
  split <;> exact ⟨rfl, rfl, rfl, rfl, rfl, rfl⟩

theorem steady_xcTakes (s : State) : Steady s (xcTakes s) := by
  unfold xcTakes
  split
  · exact .rfl
  · exact .unlessHeld (steady_xcCycle ..)

/-! ### The notice unit -/

theorem steady_onWatch (s : State) (w : WatchNo) (f : WatchRecord → WatchRecord) : Steady s (s.onWatch w f) :=
  ⟨rfl, rfl, rfl, rfl, rfl, rfl⟩

theorem steady_displaceLast (s : State) : Steady s (displaceLast s) := by
  unfold displaceLast
  split
  · exact .rfl
  · exact ⟨rfl, rfl, rfl, rfl, rfl, rfl⟩

theorem steady_offerNotice (n : Notice) (s : State) : Steady s (offerNotice n s) := by
  unfold offerNotice
  refine .ite ⟨rfl, rfl, rfl, rfl, rfl, rfl⟩ (.ite ?_ ⟨rfl, rfl, rfl, rfl, rfl, rfl⟩)
  refine .trans (.trans (steady_displaceLast s) (steady_indicate _ .overflow)) ?_
  exact ⟨rfl, rfl, rfl, rfl, rfl, rfl⟩

theorem steady_raise (w : WatchNo) (o : Occurrence) (n : Word16) (s : State) : Steady s (raise w o n s) :=
  (steady_withNotice s _).trans (steady_offerNotice ..)

theorem steady_takeOccurrence (w : WatchNo) (o : Occurrence) (n : Word16) (s : State) :
    Steady s (takeOccurrence w o n s) :=
  .ite ⟨rfl, rfl, rfl, rfl, rfl, rfl⟩ (.ite ⟨rfl, rfl, rfl, rfl, rfl, rfl⟩ (steady_raise ..))

theorem steady_withdraw (w : WatchNo) (s : State) : Steady s (withdraw w s) :=
  .ite ⟨rfl, rfl, rfl, rfl, rfl, rfl⟩ .rfl

theorem steady_offerToWatch (w : WatchNo) (e : WatchEntry) (b v : Bool) (o : Occurrence) (s : State) :
    Steady s (offerToWatch w e b v o s) :=
  .ite (steady_takeOccurrence ..) (.ite (steady_withdraw ..) .rfl)

theorem steady_offerTapReport (r : TapReport) (s : State) : Steady s (offerTapReport r s) :=
  .foldl (fun _ _ => .ite (steady_offerToWatch ..) .rfl) _ _

theorem steady_offerPointReport (r : PointReport) (s : State) : Steady s (offerPointReport r s) :=
  .foldl (fun _ _ => .ite (steady_offerToWatch ..) .rfl) _ _

theorem steady_evaluateLevel (n : Word16) (w : WatchNo) (s : State) : Steady s (evaluateLevel n w s) :=
  .ite (.ite (.ite (steady_withdraw ..) .rfl) (.ite (steady_takeOccurrence ..) .rfl)) .rfl

theorem steady_carryWatch (new : Tab 48 WatchEntry) (w : WatchNo) (s : State) : Steady s (carryWatch new w s) :=
  .ite .rfl ((steady_withdraw w s).trans (steady_onWatch ..))

theorem steady_noticeApplySwap (new : Tab 48 WatchEntry) (s : State) : Steady s (noticeApplySwap new s) := by
  unfold noticeApplySwap
  exact (Steady.foldl (fun s w => steady_carryWatch new w s) (indices 48) s).trans (steady_withNotice ..)

theorem steady_lowerHoldoffs (s : State) : Steady s (lowerHoldoffs s) := steady_withNotice ..

theorem steady_noticeCycle (c : CycleStart) (rest : List CycleStart) (s : State) : Steady s (noticeCycle c rest s) := by
  have h : ∀ t, Steady t ((indices 48).foldl (fun s w => evaluateLevel c.count w s) (lowerHoldoffs t)) := fun t =>
    (steady_lowerHoldoffs t).trans (.foldl (fun s w => steady_evaluateLevel c.count w s) _ _)
  unfold noticeCycle
  cases c.swap with
  | none => exact (steady_withNotice s _).trans (h _)
  | some w => exact ((steady_withNotice s _).trans (h _)).trans (steady_noticeApplySwap ..)

theorem steady_noticeTakes (s : State) : Steady s (noticeTakes s) := by
  unfold noticeTakes
  split
  · exact .rfl
  · exact .unlessHeld (steady_noticeCycle ..)

/-! ### The delivery side -/

theorem steady_sendNotice (b : Bool) (f : FlightRecord) (s : State) : Steady s (sendNotice b f s) :=
  ⟨rfl, rfl, rfl, rfl, rfl, rfl⟩

theorem steady_retryRecord (f : FlightRecord) (s : State) : Steady s (retryRecord f s).2 := by
  unfold retryRecord
  split
  · split
    · split
      · exact steady_sendNotice ..
      · exact .rfl
    · exact ⟨rfl, rfl, rfl, rfl, rfl, rfl⟩
  · exact .rfl

theorem steady_retryAll (l : List FlightRecord) (s : State) : Steady s (retryAll l s).2 := by
  induction l generalizing s with
  | nil => exact .rfl
  | cons f l ih => exact (steady_retryRecord f s).trans (ih _)

theorem steady_retries (s : State) : Steady s (retries s) :=
  (steady_retryAll s.delivery.inFlight s).trans ⟨rfl, rfl, rfl, rfl, rfl, rfl⟩

theorem steady_emitNotice (n : Notice) (s : State) : Steady s (emitNotice n s) := ⟨rfl, rfl, rfl, rfl, rfl, rfl⟩

theorem steady_emitUpTo (k : Nat) (s : State) : Steady s (emitUpTo k s) := by
  induction k generalizing s with
  | zero => exact .rfl
  | succ k ih =>
    unfold emitUpTo
    split
    · exact .rfl
    · exact .ite ((steady_emitNotice ..).trans (ih _)) .rfl

theorem steady_deliveryTakes (s : State) : Steady s (deliveryTakes s) := by
  unfold deliveryTakes
  split
  · exact .rfl
  · refine .unlessHeld (.trans ?_ (steady_emitUpTo ..))
    exact (steady_withDelivery s _).trans (steady_retries _)

/-! ### The publisher -/

theorem steady_publisherTakeReport (r : PointReport) (rest : List PointReport) (s : State) :
    Steady s (publisherTakeReport r rest s) :=
  .ite ⟨rfl, rfl, rfl, rfl, rfl, rfl⟩ ⟨rfl, rfl, rfl, rfl, rfl, rfl⟩

theorem steady_groupCycle (n : Word16) (g : GroupNo) (s : State) : Steady s (groupCycle n g s) :=
  .ite .rfl (.ite ⟨rfl, rfl, rfl, rfl, rfl, rfl⟩ ⟨rfl, rfl, rfl, rfl, rfl, rfl⟩)

theorem steady_publisherCycle (c : CycleStart) (rest : List CycleStart) (s : State) :
    Steady s (publisherCycle c rest s) := by
  have h : ∀ t, Steady t ((indices 4).foldl (fun s g => groupCycle c.count g s) t) :=
    .foldl (fun s g => steady_groupCycle c.count g s) _
  unfold publisherCycle
  cases c.swap with
  | none => exact (steady_withPublisher s _).trans (h _)
  | some w => exact ((steady_withPublisher s _).trans (h _)).trans (steady_withPublisher ..)

theorem steady_publisherTakes (s : State) : Steady s (publisherTakes s) := by
  unfold publisherTakes
  split
  · exact .rfl
  · exact .unlessHeld (steady_publisherCycle ..)

/-! ### The ports -/

theorem steady_goDown (p : Port) (s : State) : Steady s (goDown p s) := by
  cases p <;> exact ⟨rfl, rfl, rfl, rfl, rfl, rfl⟩

theorem steady_loseSignal (p : Port) (s : State) : Steady s (loseSignal p s) := by
  unfold loseSignal
  split
  · exact steady_onPort ..
  · exact (steady_goDown p s).trans (steady_onPort ..)

theorem steady_receiveBad (p : Port) (s : State) : Steady s (receiveBad p s) :=
  .ite ((steady_onPort ..).trans (steady_goDown ..)) (steady_onPort ..)

theorem steady_passage (p : Port) (c : Cell) (s : State) : Steady s (passage p c s) := by
  unfold passage
  split
  · exact .ite (steady_onPort ..) (steady_onPort ..)
  · exact steady_onPort ..

theorem steady_queueRequest (r : Request) (s : State) : Steady s (queueRequest r s) :=
  .ite ⟨rfl, rfl, rfl, rfl, rfl, rfl⟩ ⟨rfl, rfl, rfl, rfl, rfl, rfl⟩

theorem steady_takeRequestCell (c : Cell) (s : State) : Steady s (takeRequestCell c s) :=
  .ite (steady_queueRequest ..) (.ite ((steady_queueRequest ..).trans (steady_onPort ..)) (steady_passage ..))

theorem steady_transmitterPick (p : Port) (s : State) : Steady s (transmitterPick p s) := by
  cases p <;> exact ⟨rfl, rfl, rfl, rfl, rfl, rfl⟩

/-! ### Requests -/

/-- The queue of commands, the reset line, the straps, the station number, the active bank, its generation, the cycle
count and the established mark are as they were. -/
structure Calm (s t : State) : Prop where
  pending     : t.pending = s.pending
  resetLine   : t.resetLine = s.resetLine
  straps      : t.straps = s.straps
  station     : t.engine.station = s.engine.station
  active      : t.bank.active = s.bank.active
  generation  : t.bank.generation = s.bank.generation
  count       : t.cycle.count = s.cycle.count
  established : t.cycle.established = s.cycle.established

theorem Calm.rfl {s : State} : Calm s s :=
  ⟨Eq.refl _, Eq.refl _, Eq.refl _, Eq.refl _, Eq.refl _, Eq.refl _, Eq.refl _, Eq.refl _⟩

theorem Calm.trans {s t u : State} (h : Calm s t) (k : Calm t u) : Calm s u :=
  ⟨k.1.trans h.1, k.2.trans h.2, k.3.trans h.3, k.4.trans h.4, k.5.trans h.5, k.6.trans h.6, k.7.trans h.7,
    k.8.trans h.8⟩

theorem Steady.calm {s t : State} (h : Steady s t) : Calm s t :=
  ⟨h.1, h.2, h.3, h.4, congrArg _ h.5, congrArg _ h.5, congrArg _ h.6, congrArg _ h.6⟩

theorem calm_withNotice (s : State) (u : NoticeUnit) : Calm s { s with notice := u } := (steady_withNotice s u).calm

theorem calm_respond (r : Request) (a : Answer) (s : State) : Calm s (respond r a s) :=
  ⟨rfl, rfl, rfl, rfl, rfl, rfl, rfl, rfl⟩

theorem calm_dequeued (r : Request) (s : State) : Calm s (dequeued r s) := by
  simp only [dequeued, reloadLease_eq]
  exact ⟨rfl, rfl, rfl, rfl, rfl, rfl, rfl, rfl⟩

theorem calm_takeIf {wanted : Byte → Bool} {run : Request → State → State × Answer} (h : ∀ r t, Calm t (run r t).1)
    (s : State) : Calm s (takeIf wanted run s) := by
  rcases takeIf_cases wanted run s with he | ⟨r, op, -, -, he⟩ <;> rw [he]
  · exact .rfl
  · exact ((calm_dequeued r s).trans (h r _)).trans (calm_respond ..)

/-- A change of the bank unit that leaves the active bank and its generation alone. -/
theorem calm_onBank (s : State) (f : BankUnit → BankUnit) (ha : (f s.bank).active = s.bank.active)
    (hg : (f s.bank).generation = s.bank.generation) : Calm s (s.onBank f) :=
  ⟨rfl, rfl, rfl, rfl, ha, hg, rfl, rfl⟩

theorem calm_runClearIndicators (r : Request) (t : State) : Calm t (runClearIndicators r t).1 := by
  unfold runClearIndicators; split <;> exact ⟨rfl, rfl, rfl, rfl, rfl, rfl, rfl, rfl⟩

theorem calm_runResetPart (r : Request) (t : State) : Calm t (runResetPart r t).1 := by
  unfold runResetPart; split <;> exact ⟨rfl, rfl, rfl, rfl, rfl, rfl, rfl, rfl⟩

theorem calm_runSetCycle (r : Request) (t : State) : Calm t (runSetCycle r t).1 := by
  unfold runSetCycle; split
  · exact .rfl
  · split <;> exact ⟨rfl, rfl, rfl, rfl, rfl, rfl, rfl, rfl⟩

theorem calm_runOpenEdit (r : Request) (t : State) : Calm t (runOpenEdit r t).1 := by
  unfold runOpenEdit
  dsimp only
  split
  · split
    · exact .rfl
    · exact ⟨rfl, rfl, rfl, rfl, rfl, rfl, rfl, rfl⟩
  · split
    · split
      · exact .rfl
      · exact ⟨rfl, rfl, rfl, rfl, rfl, rfl, rfl, rfl⟩
    · exact .rfl
  · exact .rfl
  · exact .rfl

theorem calm_runWrite {ι ε : Type} (table : TableName) (args : WriteArgs ι ε) (index count : ι → Nat)
    (put : ι → ε → Bank → Bank) (o : Originator) (t : State) :
    Calm t (runWrite table args index count put o t).1 := by
  unfold runWrite
  split
  · exact .rfl
  · exact .rfl
  · exact .rfl
  · exact ⟨rfl, rfl, rfl, rfl, rfl, rfl, rfl, rfl⟩

theorem calm_runCommit (r : Request) (t : State) : Calm t (runCommit r t).1 := by
  unfold runCommit; split
  · exact .rfl
  · exact .rfl
  · split
    · exact .rfl
    · exact ⟨rfl, rfl, rfl, rfl, rfl, rfl, rfl, rfl⟩

theorem calm_runAbortEdit (r : Request) (t : State) : Calm t (runAbortEdit r t).1 := by
  unfold runAbortEdit; split
  · exact .rfl
  · split
    · exact ⟨rfl, rfl, rfl, rfl, rfl, rfl, rfl, rfl⟩
    · exact .rfl

theorem runReadEntry_state (r : Request) (t : State) : (runReadEntry r t).1 = t := by
  unfold runReadEntry; split <;> rfl

theorem runReadBankStatus_state (r : Request) (t : State) : (runReadBankStatus r t).1 = t := by
  unfold runReadBankStatus; split <;> rfl

theorem runReadStatus_state (r : Request) (t : State) : (runReadStatus r t).1 = t := by
  unfold runReadStatus; split <;> rfl

theorem runReadCounter_state (r : Request) (t : State) : (runReadCounter r t).1 = t := by
  unfold runReadCounter; split <;> rfl

theorem runReadTapState_state (r : Request) (t : State) : (runReadTapState r t).1 = t := by
  unfold runReadTapState; split <;> rfl

theorem runReadPointState_state (r : Request) (t : State) : (runReadPointState r t).1 = t := by
  unfold runReadPointState; split <;> rfl

theorem runReadWatchState_state (r : Request) (t : State) : (runReadWatchState r t).1 = t := by
  unfold runReadWatchState
  split
  · split <;> rfl
  · split <;> rfl
  · rfl

theorem calm_runForcePoint (r : Request) (t : State) : Calm t (runForcePoint r t).1 := by
  unfold runForcePoint
  split
  · exact .rfl
  · split
    · exact .rfl
    · dsimp only
      split <;> split <;> first | exact .rfl | exact (steady_setForce ..).calm

theorem calm_runReleasePoint (r : Request) (t : State) : Calm t (runReleasePoint r t).1 := by
  unfold runReleasePoint
  split
  · exact .rfl
  · split
    · exact .rfl
    · split
      · exact (steady_setForce ..).calm
      · exact .rfl

theorem calm_runGate (r : Request) (t : State) : Calm t (runGate r t).1 := by
  unfold runGate; split <;> exact ⟨rfl, rfl, rfl, rfl, rfl, rfl, rfl, rfl⟩

theorem calm_ackAll (l : List Byte) (k : Nat) (t : State) : Calm t (ackAll l k t).2 := by
  induction l generalizing k t with
  | nil => exact .rfl
  | cons q l ih =>
    refine Calm.trans (t := (ackOne q t).2) ?_ (ih (k + 1) (ackOne q t).2)
    unfold ackOne; split <;> exact ⟨rfl, rfl, rfl, rfl, rfl, rfl, rfl, rfl⟩

theorem calm_runAckNotice (r : Request) (t : State) : Calm t (runAckNotice r t).1 := by
  unfold runAckNotice; split
  · exact .rfl
  · exact calm_ackAll ..

theorem calm_runSetDelivery (r : Request) (t : State) : Calm t (runSetDelivery r t).1 := by
  unfold runSetDelivery; split <;> exact ⟨rfl, rfl, rfl, rfl, rfl, rfl, rfl, rfl⟩

end Sys2Proof.Machine
end

