-- ==== Sys2Proof/Laws/Notices.lean ====
section
/-! SUPPORT. What the list operations of the notice unit can do: the choice of a point report, insertion into the
queue, the search for a sequence number, the retries of a list. -/

namespace Sys2Proof.Machine

/-- R39, R69: whether every point report of a list waits: for the cycle start of its swap, or behind a report of its own
point, one of `held` or one that stands before it in the list. -/
def AllWait (held : List PointNo) (l : List WaitingReport) : Prop := ∀ before r after, l = before ++ r :: after →
  0 < r.behind ∨ r.report.point ∈ held ∨ r.report.point ∈ before.map (·.report.point)

theorem AllWait.tail {held : List PointNo} {r : WaitingReport} {l : List WaitingReport} (h : AllWait held (r :: l)) :
    AllWait (r.report.point :: held) l := by
  intro before x after e
  have := h (r :: before) x after (by rw [e]; rfl)
  simp only [List.map_cons, List.mem_cons] at this ⊢; tauto

/-- R69: a report that waits is passed over, and its point is held. -/
theorem nextPointReport_passes {held : List PointNo} {r : WaitingReport} {l : List WaitingReport}
    (h : AllWait held (r :: l)) (m : List WaitingReport) : nextPointReport held (r :: m) =
      (nextPointReport (r.report.point :: held) m).map fun x => (x.1, r :: x.2) := by
  rw [nextPointReport, if_neg]
  have := h [] r l rfl
  rintro ⟨h1, h2⟩; simp only [List.map_nil, List.not_mem_nil, or_false, h1, lt_self_iff_false, false_or] at this
  exact h2 this

/-- R69: where every report waits none is taken. -/
theorem nextPointReport_none (l : List WaitingReport) (held : List PointNo) (h : AllWait held l) :
    nextPointReport held l = none := by
  induction l generalizing held with
  | nil => rfl
  | cons r l ih => rw [nextPointReport_passes h, ih _ h.tail]; rfl

/-- R39, R69: the report taken is the first that does not wait, and the others stay in order. -/
theorem nextPointReport_some (l : List WaitingReport) (r : PointReport) (l' : List WaitingReport)
    (held : List PointNo) (h : AllWait held l) (hh : r.point ∉ held) (hl : r.point ∉ l.map (·.report.point)) :
    nextPointReport held (l ++ ⟨r, 0⟩ :: l') = some (r, l ++ l') := by
  induction l generalizing held with
  | nil => simp [nextPointReport, hh]
  | cons x l ih =>
    simp only [List.map_cons, List.mem_cons, not_or] at hl
    rw [List.cons_append, nextPointReport_passes h, ih _ h.tail (by simp [hl.1, hh]) hl.2]; rfl

/-- R59: insertion adds the notice and keeps every other. -/
theorem insertNotice_perm (n : Notice) (q : List Notice) : (insertNotice n q).Perm (n :: q) := by
  induction q with
  | nil => exact .refl _
  | cons m q ih =>
    unfold insertNotice; split
    · exact (List.Perm.cons m ih).trans (List.Perm.swap n m q)
    · exact .refl _

/-- R59: insertion keeps the queue in class order. -/
theorem insertNotice_sorted (n : Notice) (q : List Notice) (h : q.Pairwise (fun a b => a.cls ≤ b.cls)) :
    (insertNotice n q).Pairwise (fun a b => a.cls ≤ b.cls) := by
  induction q with
  | nil => simp [insertNotice]
  | cons m q ih =>
    rw [List.pairwise_cons] at h
    unfold insertNotice; split
    · next hm =>
      rw [List.pairwise_cons]; refine ⟨?_, ih h.2⟩
      intro x hx; rw [(insertNotice_perm n q).mem_iff, List.mem_cons] at hx
      rcases hx with rfl | hx
      · exact hm
      · exact h.1 x hx
    · next hm =>
      have hm := (not_le.1 hm).le
      rw [List.pairwise_cons]; refine ⟨?_, List.pairwise_cons.2 h⟩
      intro x hx; rcases List.mem_cons.1 hx with rfl | hx
      · exact hm
      · exact hm.trans (h.1 x hx)

/-- R76: the search steps past held values alone, and stops at a free one unless it runs out of steps. -/
theorem freeSequence_spec (used : List Byte) (n : Nat) (b : Byte) : ∃ k, k ≤ n ∧
    freeSequence used n b = b + BitVec.ofNat 8 k ∧ (∀ j < k, b + BitVec.ofNat 8 j ∈ used) ∧
    (k < n → b + BitVec.ofNat 8 k ∉ used) := by
  induction n generalizing b with
  | zero => exact ⟨0, le_refl _, by simp [freeSequence], by simp, by simp⟩
  | succ n ih =>
    unfold freeSequence
    by_cases h : used.contains b = true
    · rw [if_pos h]
      obtain ⟨k, h1, h2, h3, h4⟩ := ih (b + 1)
      have hs : ∀ j, b + 1 + BitVec.ofNat 8 j = b + BitVec.ofNat 8 (j + 1) := by
        intro j; rw [BitVec.ofNat_add]; ac_rfl
      refine ⟨k + 1, by omega, by rw [h2, hs], ?_, ?_⟩
      · intro j hj; cases j with
        | zero => simpa using h
        | succ j => rw [← hs]; exact h3 j (by omega)
      · intro hk; rw [← hs]; exact h4 (by omega)
    · rw [if_neg h]; exact ⟨0, by omega, by simp, by simp, by intro _; simpa using h⟩

/-- R77: the retries of a list leave the delivery side's own fields to their caller. -/
theorem retryAll_delivery (l : List FlightRecord) (s : State) : (retryAll l s).2.delivery = s.delivery := by
  induction l generalizing s with
  | nil => rfl
  | cons f l ih =>
    show (retryAll l (retryRecord f s).2).2.delivery = s.delivery
    rw [ih]; unfold retryRecord
    split
    · split
      · split <;> rfl
      · rfl
    · rfl

end Sys2Proof.Machine
end

