-- ==== Sys2Proof/Laws/Steps.lean ====
section
/-! SUPPORT. The induction behind every invariant of steps, said once. -/

namespace Sys2Proof.Machine

/-- A property that no change of the queue of commands touches and that every command keeps is kept by steps. -/
theorem step_keeps {I : State → Prop} (hp : ∀ s q, I s → I { s with pending := q })
    (he : ∀ c s t, I s → exec c s = .next t → I t) : ∀ s t, I s → step s = .next t → I t := by
  intro s t hi h
  cases hq : s.pending with
  | nil => simp only [step, hq] at h; cases h; exact hi
  | cons c rest => simp only [step, hq] at h; exact he c _ t (hp s rest hi) h

/-- What holds before and after an event's work holds after the event, be the reset line held or not. -/
theorem unlessHeld_keeps {I : State → Prop} {s t : State} (hs : I s) (ht : I t) : I (unlessHeld s t) := by
  unfold unlessHeld; split <;> assumption

end Sys2Proof.Machine
end

