-- ==== Sys2Proof/Tests/Slice0.lean ====
section
/-! SUPPORT. Checks of the model against the manual's own examples, the smoke test of WellFormed, and for
every statement with premises a concrete state and operands that meet them: `witness_<statement>`, one
conjunct for each clause, at a boundary of its range where it has one. -/

namespace Sys2Proof.Tests
set_option Elab.async false
open Sys2Proof.Machine

/-! ### States -/

/-- A port that is UP. -/
def upPort : PortState := { State.resetPort with line := .up }

/-- The part right after power-on, but for both ports being UP. -/
def up : State := { State.reset with trunk := upPort, field := upPort }

/-- The state with a port changed. -/
def atTrunk (s : State) (f : PortState → PortState) : State := { s with trunk := f s.trunk }

/-- A cell on the line with good check: kind, station, slot, sequence, payload, stamp. -/
def raw (kind : BitVec 4) (station : Byte) (slot : BitVec 4 := 0) (sequence : Byte := 0) (payload : BitVec 64 := 0)
    (stamp : Word16 := 0) : RawCell :=
  (withCheck ⟨kind, 0, station, 0, slot, sequence, payload, stamp, 0⟩).toRaw

/-- A request of originator 1 with tag 7. -/
def req (op : Byte) (args : BitVec 56 := 0) : Request := ⟨1, 7, op, args, 0⟩

/-- The state with one request waiting. -/
def ask (op : Byte) (args : BitVec 56) (s : State) : State :=
  { s with engine := { s.engine with queue := [req op args] } }

theorem ready_ask (op : Byte) (args : BitVec 56) (s : State) (h1 : s.resetLine = false)
    (h2 : s.engine.state = .running) (h3 : s.trunk.response.length < 4) :
    Ready (ask op args s) (req op args) op := ⟨h1, h2, h3, rfl, rfl⟩

theorem ready_up (op : Byte) (args : BitVec 56) : Ready (ask op args up) (req op args) op :=
  ready_ask op args up rfl rfl (by decide)

/-- The part with a session of an owner in a bank state. -/
def session (state : BankState) (owner : Originator) : State :=
  { up with bank := { up.bank with
      state := state, owner := some owner, shadow := some emptyBank, lease := 40, leaseRemaining := 1 } }

theorem ready_session (op : Byte) (args : BitVec 56) (b : BankState) (o : Originator) :
    Ready (ask op args (session b o)) (req op args) op :=
  ready_ask op args (session b o) rfl rfl (show List.length [] < 4 by decide)

/-- A tap entry of field station 12, slot 0 (chapter 11.1). -/
def tap12 : TapEntry := ⟨true, .field, 12, 0, 0, false, 2, 1, 3, false⟩

/-- The part with tap 20 enabled as `tap12` and its record as given. -/
def tapped (r : TapRecord) : State :=
  { up with tap := { up.tap with entries := up.tap.entries.set 20 tap12, records := up.tap.records.set 20 r } }

/-- A LIVE tap record of age `age` and value `v`. -/
def live (v : Bool) (age : Nat) : TapRecord := ⟨.live, v, v, 0, 0, age, 0, 0⟩

/-- The state a command leaves. -/
def result (c : Instr) (s : State) : State :=
  match exec c s with
  | .next t => t
  | .fault _ => s
  | .refused _ => s

/-! ### The manual's examples -/

/-- R174: the check of the nine characters 123456789. -/
theorem test_check_of_digits : checkOfBits (([0x31, 0x32, 0x33, 0x34, 0x35, 0x36, 0x37, 0x38, 0x39] : List Byte).flatMap
    fun b => (List.range 8).map fun i => b.getMsbD i) = 0x29B1 := by decide +kernel

/-- The worked request and response of chapter 10, the check aside. -/
theorem test_worked_response :
    let s := { up with
      engine := { up.engine with station := 0x3C, queue := [requestOf (Cell.ofRaw 0x503C0621308C01000000000000000000) 1000] }
      tap := { up.tap with records := up.tap.records.set 140 ⟨.suspect, true, false, 0, 0, 0, 7, 300⟩ } }
    (result .readTapState s).trunk.response.map (fun c => c.toRaw.extractLsb' 16 112) =
      [0x603C06213000240007012C0003E8] := by decide +kernel

/-- Chapter 11.2: an untrusted 1, two trusted 1s, and the adoption after the silence. -/
theorem test_tap_samples :
    takeSample tap12 true false ⟨.pending, false, false, 0, 0, 1, 0, 0⟩ = ⟨.suspect, false, false, 0, 0, 0, 0, 1⟩ ∧
    takeSample tap12 true true ⟨.suspect, false, false, 0, 0, 0, 0, 1⟩ = ⟨.live, false, true, 1, 0, 0, 0, 1⟩ ∧
    takeSample tap12 true true ⟨.live, false, true, 1, 0, 1, 0, 1⟩ = ⟨.live, true, true, 0, 0, 0, 1, 1⟩ ∧
    takeSample tap12 false true ⟨.stale, true, true, 0, 0, 3, 1, 1⟩ = ⟨.live, false, false, 0, 0, 0, 2, 1⟩ := by
  decide

/-- Chapter 11.2: the third cycle start without a sample makes the tap STALE. -/
theorem test_tap_goes_stale :
    ((result .tapCycleStart { tapped (live true 2) with
      tap := { (tapped (live true 2)).tap with inbox := [⟨5, none⟩] } }).tap.records.get 20) =
      ⟨.stale, true, true, 0, 0, 3, 0, 0⟩ := by decide +kernel

/-- Chapter 11.1: a trunk CYCLE cell of stamp 812 begins the cycle; the field port, DOWN, discards its copy. -/
theorem test_first_cycle :
    let t := result (.cellReceived .trunk (raw 1 1 0 0 0 812)) { up with field := State.resetPort }
    t.cycle.count = 812 ∧ t.cycle.established = true ∧ t.cycle.skewCount = 0 ∧ t.bank.inbox = [812] ∧
      t.field.counters.discardedDown = 1 := by decide +kernel

/-- The step takes the front command, and keeps the rest of the queue. -/
theorem test_step_takes_front : step { up with pending := [.signalLost .field, .echo] } =
    .next { (result (.signalLost .field) up) with pending := [.echo] } := rfl

/-- Commands that name no tap, point or group of the part are not well formed; the last of each is. -/
theorem test_wellFormed :
    Instr.wellFormed (.goingStale 192) = false ∧ Instr.wellFormed (.goingStale 191) = true ∧
    Instr.wellFormed (.holdExpiry 128) = false ∧ Instr.wellFormed (.holdExpiry 127) = true ∧
    Instr.wellFormed (.forceExpiry 128) = false ∧ Instr.wellFormed (.forceExpiry 127) = true ∧
    Instr.wellFormed (.periodDue 4) = false ∧ Instr.wellFormed (.periodDue 3) = true := by decide

/-! ### Witnesses: the whole part and resets -/

theorem witness_StepTakesTheFrontCommand : State.reset.pending = [] := rfl

theorem witness_StationBankAndCountHaveTheirOwnCauses :
    ∃ t, exec .echo (ask 1 0 up) = .next t ∧ ∀ straps, Instr.echo ≠ .powerOn straps ∧ Instr.echo ≠ .resetLineRelease straps :=
  ⟨_, rfl, fun _ => ⟨by simp, by simp⟩⟩

theorem witness_ResetsLeaveTheStatedValues (scope : Scope) :
    let s := { up with engine := { up.engine with state := .resetPending scope .gone } }
    s.resetLine = false ∧ s.engine.state = .resetPending scope .gone := ⟨rfl, rfl⟩

theorem witness_PowerOnReachesTheResetState : State.reset.pending = [] ∧ State.reset.resetLine = false ∧
    State.reset.trunk.signal = true ∧ State.reset.field.signal = true := by decide

theorem witness_HeldResetLineStopsThePart : ({ up with resetLine := true } : State).resetLine = true ∧
    (∀ straps, Instr.echo ≠ .powerOn straps ∧ Instr.echo ≠ .resetLineRelease straps) ∧
    (∀ p, Instr.echo ≠ .signalGained p ∧ Instr.echo ≠ .signalLost p) ∧ Instr.echo ≠ .resetLineHeld :=
  ⟨rfl, fun _ => ⟨by simp, by simp⟩, fun _ => ⟨by simp, by simp⟩, by simp⟩

/-! ### Witnesses: the ports -/

theorem witness_SignalReportsActOnTheirPort :
    (atTrunk State.reset fun p => { p with signal := false }).trunk.signal = false ∧
    State.reset.trunk.signal = true ∧ State.reset.trunk.line = .down ∧ up.trunk.line = .up := by decide

theorem witness_DownPortAcquiresItsLine :
    let s := fun k => atTrunk State.reset fun p => { p with goodRun := k }
    (∀ k, (s k).resetLine = false ∧ (s k).trunk.line = .down ∧ (s k).trunk.signal = true) ∧
    goodCheck 0 = false ∧ goodCheck (raw 0 1) = true ∧ (s 2).trunk.goodRun < 3 ∧ (s 3).trunk.goodRun = 3 ∧
    (let deaf := atTrunk State.reset fun p => { p with signal := false };
      deaf.resetLine = false ∧ deaf.trunk.line = .down ∧ deaf.trunk.signal = false) :=
  ⟨fun _ => ⟨rfl, rfl, rfl⟩, by decide +kernel, by decide +kernel, by decide, rfl, rfl, rfl, rfl⟩

theorem witness_BadCellsAreCountedAndTheEighthTakesThePortDown :
    let s := fun k => atTrunk up fun p => { p with badRun := k }
    (∀ k, (s k).resetLine = false ∧ (s k).trunk.line = .up) ∧ goodCheck 0 = false ∧ (s 6).trunk.badRun < 7 ∧
    (s 7).trunk.badRun = 7 := ⟨fun _ => ⟨rfl, rfl⟩, by decide +kernel, by decide, rfl⟩

theorem witness_ClashesAndMisplacedCellsAreDiscarded :
    up.resetLine = false ∧ up.trunk.line = .up ∧ up.field.line = .up ∧ up.engine.station = 60 ∧
    [raw 0 1, raw 2 60, raw 3 60, raw 4 60, raw 1 9, raw 5 9, raw 6 255, raw 4 9, raw 6 9, raw 4 255, raw 2 255].all goodCheck = true ∧
    (Cell.ofRaw (raw 0 1)).kindCode = 0 ∧
    ((Cell.ofRaw (raw 2 60)).kindCode = 2 ∧ (Cell.ofRaw (raw 2 60)).station = 60) ∧
    ((Cell.ofRaw (raw 4 60)).kindCode = 4 ∧ (Cell.ofRaw (raw 4 60)).station = 60) ∧
    ((Cell.ofRaw (raw 6 255)).kindCode = 6 ∧ (Cell.ofRaw (raw 6 255)).station = 255) ∧
    ((Cell.ofRaw (raw 4 9)).kindCode = 4 ∧ (Cell.ofRaw (raw 4 9)).station = 9) ∧
    ((Cell.ofRaw (raw 2 255)).kindCode = 2 ∧ (Cell.ofRaw (raw 2 255)).station = 255 ∧
      ∀ t, (up.tap.entries.get t).station ≠ 255) := by
  refine ⟨rfl, rfl, rfl, rfl, ?_, ?_, ?_, ?_, ?_, ?_, ?_⟩ <;> decide +kernel

theorem witness_PassageFollowsThePolicyTable :
    let blocking := { up with bank := { up.bank with active := { emptyBank with policy := Tab.fill 255 ⟨true, true⟩ } } }
    up.resetLine = false ∧ blocking.resetLine = false ∧
    (∀ s ∈ [up, blocking], s.trunk.line = .up ∧ s.field.line = .up) ∧
    [raw 4 254, raw 6 254, raw 5 254, raw 7 1, raw 15 1].all goodCheck = true ∧
    (Cell.ofRaw (raw 4 254)).kindCode = 4 ∧ (Cell.ofRaw (raw 6 254)).kindCode = 6 ∧ (Cell.ofRaw (raw 5 254)).kindCode = 5 ∧
    (Cell.ofRaw (raw 4 254)).station.toNat < 255 ∧ (Cell.ofRaw (raw 4 254)).station ≠ up.engine.station ∧
    (blocking.bank.active.policy.get 254).upBlock = true ∧ (blocking.bank.active.policy.get 254).downBlock = true ∧
    (up.bank.active.policy.get 254).upBlock = false ∧ (up.bank.active.policy.get 254).downBlock = false ∧
    7 ≤ (Cell.ofRaw (raw 7 1)).kindCode.toNat := by
  refine ⟨rfl, rfl, ?_, ?_, ?_, ?_, ?_, ?_, ?_, ?_, ?_, ?_, ?_, ?_⟩
  · intro s h; simp at h; rcases h with rfl | rfl <;> exact ⟨rfl, rfl⟩
  all_goals decide +kernel

/-- The stamps 0 and 65535 lie in the window of count 0, and 1 does not; tap 20 wants the cells of station 12. -/
theorem witness_StateCellsAreSampledAndPassed :
    let s := tapped (live false 0)
    let wanted := fun (c : Cell) (t : TapNo) =>
      (s.tap.entries.get t).enabled = true ∧ (s.tap.entries.get t).side = .field ∧
        (s.tap.entries.get t).station = c.station ∧ (s.tap.entries.get t).slot = c.slot ∧
        (s.tap.records.get t).spacing = 0
    s.resetLine = false ∧ s.field.line = .up ∧ s.cycle.count = 0 ∧
    [raw 2 12, raw 3 12, raw 2 12 0 0 0 65535, raw 2 12 0 0 0 1, raw 2 13 0 0 0 1].all goodCheck = true ∧
    (Cell.ofRaw (raw 2 12)).stamp = s.cycle.count ∧ (Cell.ofRaw (raw 2 12 0 0 0 65535)).stamp = s.cycle.count - 1 ∧
    ((Cell.ofRaw (raw 2 12 0 0 0 1)).stamp ≠ s.cycle.count ∧ (Cell.ofRaw (raw 2 12 0 0 0 1)).stamp ≠ s.cycle.count - 1) ∧
    (Cell.ofRaw (raw 2 12)).kindCode = 2 ∧ (Cell.ofRaw (raw 3 12)).kindCode = 3 ∧
    (Cell.ofRaw (raw 2 12)).station ≠ s.engine.station ∧ (Cell.ofRaw (raw 2 12)).station.toNat < 255 ∧
    wanted (Cell.ofRaw (raw 2 12)) 20 ∧ ¬wanted (Cell.ofRaw (raw 2 12)) 21 ∧ wanted (Cell.ofRaw (raw 2 12 0 0 0 1)) 20 ∧
    ¬∃ t, wanted (Cell.ofRaw (raw 2 13 0 0 0 1)) t := by
  refine ⟨rfl, rfl, rfl, ?_, ?_, ?_, ?_, ?_, ?_, ?_, ?_, ?_, ?_, ?_, ?_⟩ <;> decide +kernel

/-- With Q 2: the first differing trusted sample counts to 1, the second reaches Q; with Q 1 the first does. -/
theorem witness_SamplesAreAdoptedQualifiedOrDistrusted :
    (⟨.stale, true, true, 0, 0, 0, 0, 0⟩ : TapRecord).cond = .stale ∧ (live false 0).cond = .live ∧
    true ≠ (live false 0).qualified ∧ 1 < tap12.qualify ∧
    (let r : TapRecord := ⟨.live, false, true, 1, 0, 0, 0, 0⟩;
      0 < r.run ∧ true = r.candidate ∧ true ≠ r.qualified ∧ tap12.qualify ≤ r.run + 1) ∧
    ({ tap12 with qualify := 1 } : TapEntry).qualify ≤ 1 := by decide

theorem witness_TrunkCycleCellsAreFollowedOrConflict :
    let s := fun c : CycleState => { up with cycle := { up.cycle with state := c } }
    (∀ c, (s c).resetLine = false ∧ (s c).trunk.line = .up ∧ (s c).cycle.state = c) ∧
    goodCheck (raw 1 1 0 0 0 1) = true ∧ (Cell.ofRaw (raw 1 1 0 0 0 1)).kindCode = 1 :=
  ⟨fun _ => ⟨rfl, rfl, rfl⟩, by decide +kernel, by decide +kernel⟩

theorem witness_RequestsAreQueuedOrDropped :
    up.resetLine = false ∧ up.trunk.line = .up ∧ goodCheck (raw 5 60) = true ∧ goodCheck (raw 5 255) = true ∧
    (Cell.ofRaw (raw 5 60)).kindCode = 5 ∧ (Cell.ofRaw (raw 5 60)).station = up.engine.station ∧
    (Cell.ofRaw (raw 5 255)).station = 255 ∧ up.engine.station ≠ 255 := by decide +kernel

/-- A cycle start and a conflict, a broadcast, and a cell for each of the single dispositions: clash, misplaced, blocked,
queued as a request, forwarded, dropped at a full FORWARD queue, discarded at a DOWN port. -/
theorem witness_EveryAcceptedCellHasOneDisposition :
    let s := up
    let originating := { up with cycle := { up.cycle with state := .originating } }
    let blocking := { up with bank := { up.bank with active := { emptyBank with policy := Tab.fill 255 ⟨true, true⟩ } } }
    let full := atTrunk up fun p => { p with forward := List.replicate 16 (Cell.ofRaw 0) }
    let down := atTrunk up fun p => { p with line := .down }
    (∀ u ∈ [s, originating, blocking], u.resetLine = false ∧ u.trunk.line = .up ∧ u.field.line = .up) ∧
    (∀ u ∈ [full, down], u.resetLine = false ∧ u.field.line = .up) ∧
    [raw 1 1, raw 5 255, raw 2 60, raw 5 9, raw 4 9, raw 5 60, raw 15 1].all goodCheck = true ∧
    ((Cell.ofRaw (raw 1 1)).kindCode = 1 ∧ s.cycle.state = .following ∧ originating.cycle.state = .originating) ∧
    ((Cell.ofRaw (raw 5 255)).kindCode = 5 ∧ (Cell.ofRaw (raw 5 255)).station = 255 ∧ s.engine.station ≠ 255) ∧
    ((Cell.ofRaw (raw 2 60)).kindCode = 2 ∧ (Cell.ofRaw (raw 2 60)).station = s.engine.station) ∧
    (Cell.ofRaw (raw 5 9)).kindCode = 5 ∧
    ((Cell.ofRaw (raw 4 9)).kindCode = 4 ∧ (blocking.bank.active.policy.get 9).upBlock = true) ∧
    ((Cell.ofRaw (raw 5 60)).kindCode = 5 ∧ (Cell.ofRaw (raw 5 60)).station = s.engine.station) ∧
    ((Cell.ofRaw (raw 15 1)).kindCode = 15 ∧ s.trunk.forward.length = 0 ∧ full.trunk.forward.length = 16 ∧
      down.trunk.line = .down) := by
  refine ⟨?_, ?_, ?_, ?_, ?_, ?_, ?_, ?_, ?_, ?_⟩
  on_goal 1 => intro u h; simp at h; rcases h with rfl | rfl | rfl <;> exact ⟨rfl, rfl, rfl⟩
  on_goal 1 => intro u h; simp at h; rcases h with rfl | rfl <;> exact ⟨rfl, rfl⟩
  all_goals decide +kernel

theorem witness_ArbiterPicksInOrderWithAFairShare (c : Cell) (scope : Scope) :
    let s := fun f => atTrunk up f
    let pend := fun g => { (s fun p => { p with response := [c] }) with
      engine := { up.engine with state := .resetPending scope g } }
    State.reset.resetLine = false ∧ State.reset.trunk.line = .down ∧ (∀ f, (s f).resetLine = false) ∧
    (s fun p => { p with cyclePlace := some c }).trunk.cyclePlace = some c ∧
    (s fun p => { p with forward := [c], response := [c], forwardRun := 6 }).trunk.forwardRun < 7 ∧
    (let q := (s fun p => { p with forward := [c], forwardRun := 7 }).trunk;
      q.forward = [c] ∧ q.response = [] ∧ q.derived = [] ∧ q.notice = []) ∧
    (let q := (s fun p => { p with forward := [c], response := [c], forwardRun := 7 }).trunk;
      q.line = .up ∧ q.cyclePlace = none ∧ q.forwardRun = 7 ∧ q.response = [c]) ∧
    (let q := (s fun p => { p with derived := [c] }).trunk;
      q.cyclePlace = none ∧ q.forward = [] ∧ q.response = [] ∧ q.derived = [c]) ∧
    (let q := (s fun p => { p with notice := [c] }).trunk;
      q.cyclePlace = none ∧ q.forward = [] ∧ q.response = [] ∧ q.derived = [] ∧ q.notice = [c]) ∧
    (up.trunk.line = .up ∧ up.trunk.cyclePlace = none ∧ up.trunk.forward = [] ∧ up.trunk.response = []) ∧
    ∀ g, (pend g).engine.state = .resetPending scope g ∧ (pend g).resetLine = false :=
  ⟨rfl, rfl, fun _ => rfl, rfl, show 6 < 7 by decide, ⟨rfl, rfl, rfl, rfl⟩, ⟨rfl, rfl, rfl, rfl⟩, ⟨rfl, rfl, rfl, rfl⟩,
    ⟨rfl, rfl, rfl, rfl, rfl⟩, ⟨rfl, rfl, rfl, rfl⟩, fun _ => ⟨rfl, rfl⟩⟩

/-! ### Witnesses: cycle timing and the tap unit -/

theorem witness_ExpiriesActByTheCycleState :
    let s := fun (st : CycleState) (e : Bool) (m : Nat) =>
      { up with cycle := { up.cycle with state := st, established := e, missed := m } }
    let enters := fun u : State => u.cycle.state = .following ∧ u.cycle.established = true ∧ 0 < u.cycle.watchLimit ∧
      u.cycle.watchLimit ≤ min 255 (u.cycle.missed + 1)
    (∀ st e m, (s st e m).resetLine = false ∧ (s st e m).cycle.state = st ∧ (s st e m).cycle.established = e) ∧
    enters (s .following true 3) ∧ ¬enters (s .following true 2) :=
  ⟨fun _ _ _ => ⟨rfl, rfl, rfl⟩, by decide, by decide⟩

theorem witness_ExpiryComesAtTheLastTickOfTheInterval : State.reset.resetLine = false ∧
    State.reset.cycle.prescaleCount = State.reset.cycle.divide ∧ State.reset.cycle.periodCount = State.reset.cycle.period ∧
    1 ≤ State.reset.cycle.period ∧ 9999 < (State.reset.cycle.divide + 1) * State.reset.cycle.period := by decide

/-- Age 2 becomes 3 and meets the limit 3; age 1 becomes 2 and does not; a swap to the empty bank changes tap 20. -/
theorem witness_CycleStartsAgeTapsAndMakeThemStale :
    let s := fun (age : Nat) (w : Option Swap) =>
      { tapped (live true age) with tap := { (tapped (live true age)).tap with inbox := [⟨5, w⟩] } }
    let stale := fun u : State => (u.tap.entries.get 20).enabled = true ∧ (u.tap.entries.get 20).stale ≠ 0 ∧
      ((u.tap.records.get 20).cond = .live ∨ (u.tap.records.get 20).cond = .suspect) ∧
      (u.tap.entries.get 20).stale ≤ min 255 ((u.tap.records.get 20).age + 1)
    (∀ age w, (s age w).resetLine = false ∧ (s age w).tap.inbox = [⟨5, w⟩]) ∧ stale (s 2 none) ∧ ¬stale (s 1 none) ∧
    ((s 2 none).tap.entries.get 21).enabled = false ∧
    (s 2 none).tap.entries.get 20 ≠ (emptyBank.taps.get 20) :=
  ⟨fun _ _ => ⟨rfl, rfl⟩, by decide +kernel, by decide +kernel, by decide +kernel, by decide +kernel⟩

/-! ### Witnesses: the cross-connect -/

/-- The part with point 64 at an entry, a record and a force, and tap 20 LIVE at 1. -/
def pointed (e : BindEntry) (r : PointRecord) (f : Option ForceRecord) (inbox : List CycleStart) : State :=
  { tapped (live true 0) with
    xc := ⟨up.xc.entries.set 64 e, up.xc.records.set 64 r, up.xc.forces.set 64 f, [], inbox, 0⟩ }

/-- A point record of a condition and a hold countdown, its values 0. -/
def rec' (c : PointCond) (hold : Nat) : PointRecord := ⟨c, false, false, hold, false, false, 0⟩

theorem witness_TapReportsRecomputeTheirPoints :
    let rep : TapReport := ⟨20, ⟨false, .pending⟩, ⟨true, .live⟩, false⟩
    let s := { pointed ⟨.follow, [20], false, 0⟩ (rec' .failsafe 0) none [] with
      xc := { (pointed ⟨.follow, [20], false, 0⟩ (rec' .failsafe 0) none []).xc with reports := [rep] } }
    s.resetLine = false ∧ s.xc.reports = [rep] ∧ rep.tap ∈ (s.xc.entries.get 64).sources ∧
      rep.tap ∉ (s.xc.entries.get 63).sources := ⟨rfl, rfl, by decide +kernel, by decide +kernel⟩

/-- R38, the intermediate result: taps 20 and 21 go LIVE with one cell; a cross-connect that has not seen the sample of tap
21 when it takes the report of tap 20 finds an ANY point DEGRADED, and one that has finds it NORMAL. -/
theorem test_intermediate_result :
    let s := { tapped (live true 0) with
      tap := { (tapped (live true 0)).tap with records := (tapped (live true 0)).tap.records.set 21 (live true 0) } }
    let rep : TapReport := ⟨21, ⟨false, .pending⟩, ⟨true, .live⟩, false⟩
    combineResult { s with tap := beforeReports [rep] s.tap } ⟨.any, [20, 21], false, 0⟩ = some (true, .degraded) ∧
    combineResult { s with tap := beforeReports [] s.tap } ⟨.any, [20, 21], false, 0⟩ = some (true, .normal) := by
  refine ⟨?_, ?_⟩ <;> decide +kernel

/-- Tap 20 is LIVE; it is usable while the cross-connect is not ahead of the tap unit, and unusable once the
cross-connect alone has taken a swap that alters its entry. -/
theorem witness_PointsFollowTheConditionMachine :
    let s := tapped (live true 0)
    let ahead := { s with tap := { s.tap with inbox := [⟨5, some ⟨emptyBank, 1⟩⟩] } }
    s.tap.inbox.take (s.tap.inbox.length - s.xc.inbox.length) = [] ∧
    (ahead.tap.inbox.take (ahead.tap.inbox.length - ahead.xc.inbox.length) = [⟨5, some ⟨emptyBank, 1⟩⟩] ∧
      (ahead.tap.records.get 20).cond = .live ∧ emptyBank.taps.get 20 ≠ ahead.tap.entries.get 20) ∧
    combineResult s ⟨.follow, [20], false, 0⟩ = some (true, .normal) ∧
    combineResult ahead ⟨.follow, [20], false, 0⟩ = none ∧
    combineResult s ⟨.any, [20, 21], false, 0⟩ = some (true, .degraded) ∧
    combineResult s ⟨.all, [20, 21], false, 0⟩ = none ∧ combineResult s ⟨.all, [20, 21], false, 1⟩ = none ∧
    (∀ c, (rec' c 0).cond = c) := by
  refine ⟨rfl, ⟨rfl, ?_, ?_⟩, ?_, ?_, ?_, ?_, ?_, fun _ => rfl⟩ <;> decide +kernel

theorem witness_CombineFunctionsVoteOverUsableSources :
    ([some true, none] : List (Option Bool)).filterMap id ≠ [] ∧ ([none, none] : List (Option Bool)).filterMap id = [] ∧
    (([some true, none] : List (Option Bool)).filterMap id).length < 2 ∧
    (([some true, some false, some true] : List (Option Bool)).filterMap id).length = 3 ∧
    ([some true, none, some false] : List (Option Bool)).filterMap id = [true, false] ∧
    (([none, none, some true] : List (Option Bool)).filterMap id).length ≤ 1 := by decide

/-- Holds of 2 and of 1, forces of 1 cycle start, and a point whose result is or is not defined at its expiry. -/
theorem witness_CycleStartsCountHoldsAndForces :
    let e1 : BindEntry := ⟨.follow, [20], false, 3⟩
    let e2 : BindEntry := ⟨.follow, [21], false, 3⟩
    let s := fun (e : BindEntry) (c : PointCond) (h : Nat) (f : Option ForceRecord) => pointed e (rec' c h) f [⟨5, none⟩]
    let expires := fun u : State => (u.xc.records.get 64).cond = .holding ∧ (u.xc.records.get 64).hold ≤ 1
    (∀ e c h f, (s e c h f).resetLine = false ∧ (s e c h f).xc.inbox = [⟨5, none⟩]) ∧
    ((s e1 .normal 0 none).xc.records.get 64).cond ≠ .holding ∧
    (s e1 .normal 0 (some ⟨true, 1, some 1⟩)).xc.forces.get 64 = some ⟨true, 1, some 1⟩ ∧
    1 < ((s e1 .holding 2 none).xc.records.get 64).hold ∧
    (1 < ((s e1 .holding 2 (some ⟨true, 1, some 1⟩)).xc.records.get 64).hold ∧
      (s e1 .holding 2 (some ⟨true, 1, some 1⟩)).xc.forces.get 64 = some ⟨true, 1, some 1⟩) ∧
    (expires (s e1 .holding 1 none) ∧ combineResult (s e1 .holding 1 none) e1 ≠ none) ∧
    (expires (s e2 .holding 1 none) ∧ combineResult (s e2 .holding 1 none) e2 = none) := by
  refine ⟨fun _ _ _ _ => ⟨rfl, rfl⟩, ?_, ?_, ?_, ?_, ?_, ?_⟩ <;> decide +kernel

theorem witness_SwapsCarryPointsOver :
    let e : BindEntry := ⟨.follow, [21], false, 3⟩
    let w : Swap := ⟨emptyBank, 1⟩
    let s := pointed e (rec' .holding 1) (some ⟨true, 1, some 1⟩) [⟨5, some w⟩]
    s.resetLine = false ∧ s.xc.inbox = [⟨5, some w⟩] ∧
    (∃ worked, exec .xcCycleStart { s with xc := { s.xc with inbox := [⟨5, none⟩] } } = .next worked) ∧
    ((s.xc.records.get 64).cond = .holding ∧ (s.xc.records.get 64).hold ≤ 1) ∧
    s.xc.forces.get 64 = some ⟨true, 1, some 1⟩ ∧ s.xc.entries.get 63 = w.bank.binds.get 63 ∧
    s.xc.entries.get 64 ≠ w.bank.binds.get 64 :=
  ⟨rfl, rfl, ⟨_, rfl⟩, by decide +kernel, by decide +kernel, by decide +kernel, by decide +kernel⟩

/-! ### Witnesses: the notice unit -/

/-- A notice of a watch and a class. -/
def note (w : WatchNo) (c : ClassNo) : Notice := ⟨w, c, .change, true, .tap .live, false, 0, 0, 1⟩

/-- The part with watch 9 at an entry and a record, and a notice queue. -/
def watched (e : WatchEntry) (r : WatchRecord) (q : List Notice) : State :=
  { up with notice := { up.notice with entries := up.notice.entries.set 9 e, records := up.notice.records.set 9 r, queue := q } }

/-- A swap's report of point 64 waits, a report of point 65 behind it is taken first, and another of point 64 is not. -/
theorem witness_ReportsAreOfferedToTheirWatches :
    let t : TapReport := ⟨20, ⟨false, .pending⟩, ⟨true, .live⟩, false⟩
    let p : PointNo → PointReport := fun n => ⟨n, ⟨false, false, .failsafe, false⟩, ⟨true, true, .normal, false⟩⟩
    let s := fun l => { up with notice := { up.notice with tapReports := [t], pointReports := l } }
    (∀ l, (s l).resetLine = false ∧ (s l).notice.tapReports = [t] ∧ (s l).notice.pointReports = l) ∧
    nextPointReport [] [⟨p 64, 1⟩, ⟨p 65, 0⟩] = some (p 65, [⟨p 64, 1⟩]) ∧
    nextPointReport [] [⟨p 64, 0⟩, ⟨p 65, 0⟩] = some (p 64, [⟨p 65, 0⟩]) ∧
    nextPointReport [] [⟨p 64, 1⟩, ⟨p 64, 0⟩] = none :=
  ⟨fun _ => ⟨rfl, rfl, rfl⟩, by decide, by decide, by decide⟩

theorem witness_OccurrencesCoalesceAreAbsorbedOrRaise :
    let e : WatchEntry := ⟨true, .tap 20, .high, 1, 2⟩
    let s := fun r q => watched e r q
    ((s ⟨0, true, 0⟩ [note 9 1]).notice.queue.map (·.watch)).Nodup ∧
    ((s ⟨0, true, 0⟩ [note 9 1]).notice.records.get 9).queued = true ∧
    (((s ⟨1, false, 0⟩ []).notice.records.get 9).queued = false ∧ 0 < ((s ⟨1, false, 0⟩ []).notice.records.get 9).holdoff) ∧
    (((s ⟨0, false, 0⟩ []).notice.records.get 9).queued = false ∧ ((s ⟨0, false, 0⟩ []).notice.records.get 9).holdoff = 0) ∧
    OffItsLevel e.trigger false ∧ ¬OffItsLevel e.trigger true := by
  refine ⟨?_, ?_, ?_, ?_, ?_, ?_⟩
  on_goal 5 => exact .inl ⟨rfl, rfl⟩
  on_goal 5 => rintro (⟨-, h⟩ | ⟨h, -⟩) <;> cases h
  all_goals decide +kernel

/-- A queue of 23 and queues of 24: the last of a less urgent class, or none. -/
theorem witness_RaisedNoticesEnterTheQueueByClass :
    let q := (List.finRange 48).map fun w => note w 1
    (q.take 23).Pairwise (fun a b => a.cls ≤ b.cls) ∧ (q.take 23).length < 24 ∧
    (q.take 23 ++ [note 47 2]).Pairwise (fun a b => a.cls ≤ b.cls) ∧ 24 ≤ (q.take 23 ++ [note 47 2]).length ∧
    (note 30 1).cls < (note 47 2).cls ∧ (note 47 2).watch ≠ (note 30 1).watch ∧
    24 ≤ (q.take 24).length ∧ (∀ m ∈ q.take 24, m.cls ≤ (note 30 1).cls) := by
  refine ⟨?_, ?_, ?_, ?_, ?_, ?_, ?_, ?_⟩ <;> decide +kernel

theorem witness_CycleStartsLowerHoldoffsAndEvaluateLevels :
    let high : WatchEntry := ⟨true, .tap 20, .high, 1, 2⟩
    let low : WatchEntry := ⟨true, .tap 20, .low, 1, 2⟩
    let s := { watched high ⟨1, false, 0⟩ [] with notice := { (watched high ⟨1, false, 0⟩ []).notice with inbox := [⟨5, none⟩] } }
    (s.resetLine = false ∧ s.notice.inbox = [⟨5, none⟩]) ∧
    (∀ u ∈ [watched high ⟨0, false, 0⟩ [], watched low ⟨0, false, 0⟩ [], watched low ⟨1, false, 0⟩ [],
        watched emptyWatchEntry ⟨0, false, 0⟩ []], (u.notice.queue.map (·.watch)).Nodup ∧
      ((u.notice.records.get 9).queued = true ↔ 9 ∈ u.notice.queue.map (·.watch))) ∧
    up.tap.records.get 20 = initialTap emptyTapEntry ∧ OffItsLevel high.trigger false ∧ ¬OffItsLevel low.trigger false := by
  refine ⟨⟨rfl, rfl⟩, ?_, by decide +kernel, .inl ⟨rfl, rfl⟩, ?_⟩
  · intro u h; simp at h; rcases h with rfl | rfl | rfl | rfl <;> exact ⟨by decide, by decide +kernel⟩
  · rintro (⟨h, -⟩ | ⟨-, h⟩) <;> cases h

/-- The part with watch 9's notice queued and the cycle start of a swap to the empty bank waiting. -/
def swapping : State :=
  { watched ⟨true, .tap 20, .change, 1, 2⟩ ⟨2, true, 0⟩ [note 9 1] with
    notice := { (watched ⟨true, .tap 20, .change, 1, 2⟩ ⟨2, true, 0⟩ [note 9 1]).notice with
      raised := 1, inbox := [⟨5, some ⟨emptyBank, 1⟩⟩] } }

theorem notices_swapping : NoticesInv swapping := by
  unfold NoticesInv NoticesAccounted
  refine ⟨?_, ?_, ?_, ?_, ?_, ?_, ?_, ?_⟩ <;> decide +kernel

theorem witness_SwapsWithdrawTheNoticesOfChangedWatches :
    swapping.resetLine = false ∧ NoticesInv swapping ∧ swapping.notice.inbox = [⟨5, some ⟨emptyBank, 1⟩⟩] ∧
    (∃ u, exec .noticeCycleStart { swapping with notice := { swapping.notice with inbox := [⟨5, none⟩] } } = .next u) ∧
    swapping.notice.entries.get 9 ≠ emptyBank.watches.get 9 ∧ swapping.notice.entries.get 8 = emptyBank.watches.get 8 :=
  ⟨rfl, notices_swapping, rfl, ⟨_, rfl⟩, by decide +kernel, by decide +kernel⟩

/-- The part with one notice of class 1 queued behind one of class 0, gate 1 OPEN, and a record in flight. -/
def delivering (countdown left : Nat) : State :=
  { up with
    notice := { up.notice with queue := [note 3 0, note 9 1], gates := up.notice.gates.set 1 true }
    delivery := { up.delivery with inFlight := [⟨note 5 1, 0, countdown, left, 0⟩], inbox := [⟨5, none⟩] } }

theorem witness_DeliveryRetriesFirstAndEmitsToTheBudget :
    let s := delivering 1 1
    let shut := { s with notice := { s.notice with gates := up.notice.gates } }
    s.resetLine = false ∧ s.delivery.inbox = [⟨5, none⟩] ∧ (∀ f ∈ s.delivery.inFlight, f.countdown ≤ 1 ∧ 0 < f.attemptsLeft) ∧
    (∀ f ∈ (delivering 1 0).delivery.inFlight, f.countdown ≤ 1 ∧ f.attemptsLeft = 0) ∧
    (∀ n ∈ shut.notice.queue, ¬shut.notice.gates.get n.cls = true) ∧
    (s.notice.queue = [note 3 0] ++ note 9 1 :: [] ∧ (∀ m ∈ [note 3 0], ¬s.notice.gates.get m.cls = true) ∧
      s.notice.gates.get (note 9 1).cls = true ∧ s.delivery.inFlight.length < 8 ∧ s.trunk.notice.length < 8) ∧
    ¬((atTrunk s fun p => { p with notice := List.replicate 8 (withCheck ⟨4, 0, 60, 0, 0, 0, 0, 0, 0⟩) }).trunk.notice.length < 8) := by
  refine ⟨rfl, rfl, ?_, ?_, ?_, ?_, ?_⟩ <;> decide +kernel

theorem witness_RetriesLowerResendPostponeOrExpire (c : Cell) :
    let f : Nat → Nat → FlightRecord := fun k left => ⟨note 5 1, 0, k, left, 0⟩
    1 < (f 2 1).countdown ∧ (f 1 1).countdown ≤ 1 ∧ 0 < (f 1 1).attemptsLeft ∧ (f 1 0).attemptsLeft = 0 ∧
    up.trunk.notice.length < 8 ∧ 8 ≤ (atTrunk up fun p => { p with notice := List.replicate 8 c }).trunk.notice.length :=
  ⟨show 1 < 2 by decide, show 1 ≤ 1 by decide, show 0 < 1 by decide, rfl, show 0 < 8 by decide, show 8 ≤ 8 by decide⟩

theorem witness_NextSequenceNumberIsTheFirstFree : (delivering 1 1).delivery.inFlight.length < 256 := by decide

/-! ### Witnesses: the publisher and the bank unit -/

theorem witness_GroupsAreMarkedAndEmittedWhenDue :
    let p : PointReport := ⟨64, ⟨false, false, .failsafe, false⟩, ⟨true, true, .normal, false⟩⟩
    let s := { up with publisher := { up.publisher with
      reports := [p], inbox := [⟨5, none⟩], entries := (up.publisher.entries.set 2 ⟨.down, 4, false⟩).set 3 ⟨.up, 0, true⟩,
      records := (up.publisher.records.set 2 ⟨1, false⟩).set 3 ⟨0, false⟩ } }
    (s.resetLine = false ∧ s.publisher.reports = [p] ∧ s.publisher.inbox = [⟨5, none⟩]) ∧
    ((s.publisher.entries.get 2).direction ≠ .none ∧ 0 < (s.publisher.entries.get 2).period ∧
      (s.publisher.records.get 2).countdown ≤ 1) ∧ (s.publisher.entries.get 0).direction = .none ∧
    ((s.publisher.entries.get 3).direction ≠ .none ∧ (s.publisher.entries.get 3).period = 0 ∧
      (s.publisher.records.get 3).changed = false) :=
  ⟨⟨rfl, rfl, rfl⟩, by decide +kernel, by decide +kernel, by decide +kernel⟩

/-- Targets at, just behind and the farthest ahead of the count 5, and the farthest behind. -/
theorem witness_BankCycleStartsEndLeasesAndTakeSwaps :
    let s := fun (st : BankState) (left : Nat) (t : Target) => { session st 1 with
      bank := { (session st 1).bank with leaseRemaining := left, target := t, inbox := [5] } }
    (∀ st left t, (s st left t).resetLine = false ∧ (s st left t).bank.inbox = [5] ∧ (s st left t).bank.state = st ∧
      (s st left t).bank.leaseRemaining = left ∧ (s st left t).bank.target = t ∧ (s st left t).bank.shadow = some emptyBank) ∧
    32768 ≤ ((4 : Word16) - 5).toNat ∧ 32768 ≤ ((32773 : Word16) - 5).toNat ∧
    ((6 : Word16) ≠ 5 ∧ ((32772 : Word16) - 5).toNat < 32768) :=
  ⟨fun _ _ _ => ⟨rfl, rfl, rfl, rfl, rfl, rfl⟩, by decide, by decide, by decide⟩

theorem witness_ValidationCompletionsArmRejectOrComeLate :
    let bad := { emptyBank with taps := emptyBank.taps.set 191 { tap12 with station := 60 } }
    let s := fun (b : Bank) (p : Bool) => { session .validating 1 with
      bank := { (session .validating 1).bank with shadow := some b, targetPassed := p } }
    up.bank.state ≠ .validating ∧ (∀ b p, (s b p).resetLine = false ∧ (s b p).bank.state = .validating ∧
      (s b p).bank.shadow = some b ∧ (s b p).bank.targetPassed = p) ∧
    validate 60 emptyBank = none ∧ validate 60 bad = some ⟨.tap, 191, .ownStation⟩ :=
  ⟨by decide, fun _ _ => ⟨rfl, rfl, rfl, rfl⟩, by decide +kernel, by decide +kernel⟩

/-! ### Witnesses: requests -/

/-- Argument byte 0 of a request, the others 0. -/
def arg0 (b : Byte) : BitVec 56 := b ++ (0 : BitVec 48)

/-- Argument bytes 0 and 1 of a request, the others 0. -/
def arg01 (b c : Byte) : BitVec 56 := b ++ c ++ (0 : BitVec 40)

theorem witness_EngineReadsAreAnsweredFromTheState :
    ((∀ o : Operation, o.code ≠ 0) ∧ Ready (ask 0 0 up) (req 0) 0) ∧ Ready (ask 0x01 0 up) (req 0x01) 0x01 ∧
    (∀ k : Byte, Ready (ask 0x02 (arg0 k) up) (req 0x02 (arg0 k)) 0x02) ∧
    (∀ k : Byte, Ready (ask 0x03 (arg0 k) up) (req 0x03 (arg0 k)) 0x03) ∧
    (∀ k ∈ [(0 : Byte), 3, 4, 9, 10, 16, 25, 48, 49], ((req 0x02 (arg0 k)).arg 0).toNat = k.toNat) :=
  ⟨⟨by intro o; cases o <;> decide, ready_up ..⟩, ready_up .., fun _ => ready_up .., fun _ => ready_up .., by decide⟩

theorem witness_IndicatorsAreClearedAndResetsMadePending :
    (∀ a, Ready (ask 0x04 a up) (req 0x04 a) 0x04) ∧
    ((req 0x04 (arg01 1 0xFF)).arg 0 ++ (req 0x04 (arg01 1 0xFF)).arg 1).toNat < 512 ∧
    512 ≤ ((req 0x04 (arg01 2 0)).arg 0 ++ (req 0x04 (arg01 2 0)).arg 1).toNat ∧
    (∀ a, Ready (ask 0x05 a up) (req 0x05 a) 0x05) ∧ (req 0x05 (arg0 0)).arg 0 = 0 ∧ (req 0x05 (arg0 1)).arg 0 = 1 ∧
    2 ≤ ((req 0x05 (arg0 2)).arg 0).toNat :=
  ⟨fun _ => ready_up .., by decide, by decide, fun _ => ready_up .., by decide, by decide, by decide⟩

/-- Mode 1, T 1 and W 15 are in range; W 16 is not. -/
theorem witness_SetCycleConfiguresCycleTiming :
    let ok := fun r : Request => (r.arg 0).toNat ≤ 1 ∧ (r.arg 2 ++ r.arg 3).toNat ≠ 0 ∧ (r.arg 4).toNat ≤ 15
    (∀ a, Ready (ask 0x10 a up) (req 0x10 a) 0x10) ∧ ok (req 0x10 0x010900010F0000) ∧ ¬ok (req 0x10 0x01090001100000) :=
  ⟨fun _ => ready_up .., by decide, by decide⟩

theorem witness_OpenEditOpensOrRenewsASession :
    (∀ a, Ready (ask 0x20 a up) (req 0x20 a) 0x20) ∧ up.bank.state = .idle ∧ (req 0x20 (arg0 1)).arg 0 ≠ 0 ∧
    (req 0x20 (arg0 0)).arg 0 = 0 ∧ (∀ a, Ready (ask 0x20 a (session .editing 1)) (req 0x20 a) 0x20) ∧
    (session .editing 1).bank.state = .editing ∧ (session .editing 1).bank.owner = some (req 0x20).originator :=
  ⟨fun _ => ready_up .., rfl, by decide, by decide, fun _ => ready_session .., rfl, rfl⟩

theorem witness_SessionRequestsAreRefusedInOrder :
    (∀ op, Ready (ask op 0 up) (req op) op ∧ up.bank.state = .idle) ∧
    (∀ op st, Ready (ask op 0 (session st 2)) (req op) op ∧ (session st 2).bank.state = st ∧
      (session st 2).bank.owner ≠ some (req op).originator) :=
  ⟨fun _ => ⟨ready_up .., rfl⟩, fun _ st => ⟨ready_session .., rfl, show some (2 : Originator) ≠ some 1 by decide⟩⟩

/-- The range tests of WRITE-TAP and WRITE-BIND, as the statement has them. -/
def tapTests (r : Request) : List (Nat × Bool) :=
  [(0, decide ((r.arg 0).toNat < 192)), (1, decide ((r.arg 1).toNat / 16 = 0)), (2, decide ((r.arg 2).toNat ≤ 254)),
    (3, decide ((r.arg 3).toNat % 16 ≠ 0)), (4, decide ((r.arg 4).toNat ≤ 31)),
    (5, decide (1 ≤ (r.arg 5).toNat ∧ (r.arg 5).toNat ≤ 63))]

/-- The range tests of WRITE-BIND, as the statement has them. -/
def bindTests (r : Request) : List (Nat × Bool) :=
  [(0, decide ((r.arg 0).toNat < 128)), (1, decide ((r.arg 1).toNat / 16 ≤ 3 ∧ (r.arg 1).toNat % 16 ≤ 3)),
    (2, decide (1 ≤ (r.arg 1).toNat % 16 → (r.arg 2).toNat < 192)),
    (3, decide (2 ≤ (r.arg 1).toNat % 16 → (r.arg 3).toNat < 192)),
    (4, decide (3 ≤ (r.arg 1).toNat % 16 → (r.arg 4).toNat < 192)), (5, decide ((r.arg 5).toNat ≤ 1))]

theorem witness_TapAndBindWritesReachTheShadowBank :
    let s := session .editing 1
    (s.bank.state = .editing ∧ s.bank.owner = some (req 0).originator ∧ ∀ op a, Ready (ask op a s) (req op a) op) ∧
    firstFailing (tapTests (req 0x21 0xBF0FFEFF1F3FFF)) = none ∧ ((req 0x21 0xBF0FFEFF1F3FFF).arg 0).toNat = 191 ∧
    firstFailing (tapTests (req 0x21 0xC010FF00204000)) = some 0 ∧ firstFailing (tapTests (req 0x21 0x000001010040FF)) = some 5 ∧
    firstFailing (bindTests (req 0x22 0x7F330A0B0C01FF)) = none ∧ ((req 0x22 0x7F330A0B0C01FF).arg 0).toNat = 127 ∧
    firstFailing (bindTests (req 0x22 0x7F33C00B0C01FF)) = some 2 ∧
    (firstFailing (bindTests (req 0x22 0x7F330A0A0C01FF)) = none ∧
      (req 0x22 0x7F330A0A0C01FF).arg 3 = (req 0x22 0x7F330A0A0C01FF).arg 2) ∧
    (firstFailing (bindTests (req 0x22 0x7F330A0B0B01FF)) = none ∧
      (req 0x22 0x7F330A0B0B01FF).arg 4 = (req 0x22 0x7F330A0B0B01FF).arg 3) := by
  refine ⟨⟨rfl, rfl, fun _ _ => ready_session ..⟩, ?_, ?_, ?_, ?_, ?_, ?_, ?_, ?_, ?_⟩ <;> decide

/-- The range tests of WRITE-WATCH, as the statement has them. -/
def watchTests (r : Request) : List (Nat × Bool) :=
  [(0, decide ((r.arg 0).toNat < 48)), (1, decide ((r.arg 1).toNat < 4)),
    (2, decide ((r.arg 2).toNat < if (r.arg 1).getLsbD 1 then 128 else 192)), (3, decide ((r.arg 3).toNat < 6)),
    (4, decide ((r.arg 4).toNat < 4))]

/-- The range tests of WRITE-PUBLISH, as the statement has them. -/
def publishTests (r : Request) : List (Nat × Bool) :=
  [(0, decide ((r.arg 0).toNat < 4)), (1, decide ((r.arg 1).toNat < 4)), (3, decide ((r.arg 3).toNat ≤ 1))]

/-- The range tests of WRITE-POLICY, as the statement has them. -/
def policyTests (r : Request) : List (Nat × Bool) :=
  [(0, decide ((r.arg 0).toNat ≤ 254)), (1, decide (1 ≤ (r.arg 1).toNat ∧ (r.arg 1).toNat ≤ 16))]

theorem witness_OtherWritesReachTheShadowBank :
    let s := session .editing 1
    (s.bank.state = .editing ∧ s.bank.owner = some (req 0).originator ∧ ∀ op a, Ready (ask op a s) (req op a) op) ∧
    (firstFailing (watchTests (req 0x23 0x2F037F0503FF00)) = none ∧ ((req 0x23 0x2F037F0503FF00).arg 1).getLsbD 1 = true) ∧
    (firstFailing (watchTests (req 0x23 0x2F01BF0503FF00)) = none ∧ ((req 0x23 0x2F01BF0503FF00).arg 1).getLsbD 1 = false) ∧
    firstFailing (watchTests (req 0x23 0x2F03800503FF00)) = some 2 ∧
    firstFailing (publishTests (req 0x24 0x0303FF01000000)) = none ∧ firstFailing (publishTests (req 0x24 0x0304FF01000000)) = some 1 ∧
    (firstFailing (policyTests (req 0x25 0xFE01FFFF000000)) = none ∧ 254 + 1 ≤ 255) ∧
    (firstFailing (policyTests (req 0x25 0xFE02FFFF000000)) = none ∧ 255 < 254 + 2) ∧
    firstFailing (policyTests (req 0x25 0xFE11FFFF000000)) = some 1 := by
  refine ⟨⟨rfl, rfl, fun _ _ => ready_session ..⟩, ?_, ?_, ?_, ?_, ?_, ?_, ?_, ?_⟩ <;> decide

/-- Chapter 10.5: a bind entry of one source reads back with 0 in the two source places beyond it. -/
theorem test_unused_source_places : bindEntryData ⟨.follow, [20], true, 3⟩ = [0x01, 20, 0, 0, 1, 3] := by decide

theorem witness_ReadEntryShowsTheNamedBank :
    (∀ a, Ready (ask 0x26 a up) (req 0x26 a) 0x26) ∧ ((req 0x26 (arg0 4)).arg 0).toNat < 5 ∧ 5 ≤ ((req 0x26 (arg0 5)).arg 0).toNat ∧
    (req 0x26 (arg01 4 1)).arg 1 = 1 ∧ 2 ≤ ((req 0x26 (arg01 4 2)).arg 1).toNat ∧
    (up.bank.shadow = none ∧ (session .editing 2).bank.shadow = some emptyBank) ∧
    (∀ a, Ready (ask 0x26 a (session .editing 2)) (req 0x26 a) 0x26) ∧
    (((req 0x26 0x0000BF00000000).arg 2).toNat = 191 ∧ 192 ≤ ((req 0x26 0x0000C000000000).arg 2).toNat) :=
  ⟨fun _ => ready_up .., by decide, by decide, by decide, by decide, ⟨rfl, rfl⟩, fun _ => ready_session .., by decide⟩

/-- With the count at 0: the nearest and the farthest count ahead, and the nearest behind. -/
theorem witness_CommitBeginsValidation :
    (∀ a, Ready (ask 0x27 a (session .editing 1)) (req 0x27 a) 0x27) ∧ (session .editing 1).bank.state = .editing ∧
    (session .editing 1).bank.owner = some (req 0x27).originator ∧ (session .editing 1).cycle.count = 0 ∧
    (req 0x27 (arg0 1)).arg 0 = 1 ∧ (req 0x27 (arg0 2)).arg 0 = 2 ∧ (req 0x27 (arg0 0)).arg 0 ≠ 1 ∧
    ((1 : Word16) - 0).toNat < 32768 ∧ ((32767 : Word16) - 0).toNat < 32768 ∧ 32768 ≤ ((32768 : Word16) - 0).toNat :=
  ⟨fun _ => ready_session .., rfl, rfl, rfl, by decide, by decide, by decide, by decide, by decide, by decide⟩

theorem witness_SessionsAreAbortedAndShown :
    (∀ st, Ready (ask 0x28 0 (session st 1)) (req 0x28) 0x28 ∧ (session st 1).bank.owner = some (req 0x28).originator) ∧
    (session .armed 1).bank.state ≠ .idle ∧ (∀ a, Ready (ask 0x29 a up) (req 0x29 a) 0x29) ∧
    (req 0x29 (arg0 1)).arg 0 = 1 ∧ 2 ≤ ((req 0x29 (arg0 2)).arg 0).toNat :=
  ⟨fun _ => ⟨ready_session .., rfl⟩, show BankState.armed ≠ .idle by decide, fun _ => ready_up .., by decide, by decide⟩

theorem witness_TapAndPointReadsShowTheRecords :
    (∀ a, Ready (ask 0x30 a up) (req 0x30 a) 0x30) ∧ (∀ a, Ready (ask 0x38 a up) (req 0x38 a) 0x38) ∧
    ((req 0x30 (arg0 191)).arg 0).toNat = 191 ∧ 192 ≤ ((req 0x30 (arg0 192)).arg 0).toNat ∧
    (req 0x30 (arg01 0 1)).arg 1 = 1 ∧ 2 ≤ ((req 0x30 (arg01 0 2)).arg 1).toNat ∧
    ((req 0x38 (arg0 127)).arg 0).toNat = 127 ∧ 128 ≤ ((req 0x38 (arg0 128)).arg 0).toNat ∧
    up.xc.forces.get 127 = none ∧
    (pointed ⟨.follow, [20], false, 0⟩ (rec' .normal 0) (some ⟨true, 1, none⟩) []).xc.forces.get 64 = some ⟨true, 1, none⟩ := by
  refine ⟨fun _ => ready_up .., fun _ => ready_up .., ?_, ?_, ?_, ?_, ?_, ?_, ?_, ?_⟩ <;> decide +kernel

/-- The part with forces of originator `o` at the first `k` points. -/
def forced (k : Nat) (o : Originator) : State :=
  { up with xc := { up.xc with forces := Tab.ofFn fun p => if p.val < k then some ⟨true, o, none⟩ else none } }

theorem witness_ForcesAreMadeReplacedAndReleased :
    (∀ op a k o, Ready (ask op a (forced k o)) (req op a) op) ∧ ((req 0x39 (arg01 127 1)).arg 0).toNat = 127 ∧
    ((req 0x39 (arg01 127 1)).arg 1).toNat ≤ 1 ∧ 128 ≤ ((req 0x39 (arg01 128 0)).arg 0).toNat ∧
    2 ≤ ((req 0x39 (arg01 0 2)).arg 1).toNat ∧ forceCount (forced 15 1) = 15 ∧ forceCount (forced 16 1) = 16 ∧
    (forced 16 1).xc.forces.get 127 = none ∧ (forced 16 1).xc.forces.get 15 = some ⟨true, 1, none⟩ ∧
    (forced 16 2).xc.forces.get 15 = some ⟨true, 2, none⟩ ∧ (2 : Originator) ≠ (req 0x39).originator := by
  refine ⟨fun _ _ _ _ => ready_ask _ _ _ rfl rfl (show List.length [] < 4 by decide), ?_, ?_, ?_, ?_, ?_, ?_, ?_, ?_, ?_, ?_⟩ <;> decide +kernel

theorem witness_WatchReadsShowTheRecordsAndTheQueue :
    let s := delivering 1 1
    (∀ a, Ready (ask 0x40 a s) (req 0x40 a) 0x40) ∧ (req 0x40 (arg01 0 47)).arg 0 = 0 ∧
    ((req 0x40 (arg01 0 47)).arg 1).toNat = 47 ∧ 48 ≤ ((req 0x40 (arg01 0 48)).arg 1).toNat ∧
    (req 0x40 (arg01 1 23)).arg 0 = 1 ∧ ((req 0x40 (arg01 1 23)).arg 1).toNat < 24 ∧
    24 ≤ ((req 0x40 (arg01 1 24)).arg 1).toNat ∧ 2 ≤ ((req 0x40 (arg01 2 0)).arg 0).toNat ∧
    s.notice.queue = [note 3 0] ++ note 9 1 :: [] ∧ (∀ n ∈ s.notice.queue, n.watch ≠ 47) ∧
    s.notice.queue.length ≤ 2 ∧ [note 3 0].length = ((req 0x40 (arg01 1 1)).arg 1).toNat := by
  refine ⟨fun _ => ready_ask _ _ _ rfl rfl (show List.length [] < 4 by decide), ?_, ?_, ?_, ?_, ?_, ?_, ?_, ?_, ?_, ?_, ?_⟩ <;>
    decide +kernel

theorem witness_GateAndSetDeliveryConfigureTheNoticeUnit :
    let ok := fun r : Request => 1 ≤ (r.arg 0).toNat ∧ (r.arg 0).toNat ≤ 4 ∧ 1 ≤ (r.arg 1).toNat ∧ (r.arg 2).toNat ≤ 7
    (∀ a, Ready (ask 0x41 a up) (req 0x41 a) 0x41) ∧ ((req 0x41 (arg01 15 15)).arg 0).toNat < 16 ∧
    ((req 0x41 (arg01 15 15)).arg 1).toNat < 16 ∧ 16 ≤ ((req 0x41 (arg01 16 0)).arg 0).toNat ∧
    16 ≤ ((req 0x41 (arg01 0 16)).arg 1).toNat ∧ (∀ a, Ready (ask 0x43 a up) (req 0x43 a) 0x43) ∧
    ok (req 0x43 0x04010700000000) ∧ ¬ok (req 0x43 0x05010700000000) ∧ ¬ok (req 0x43 0x04010800000000) :=
  ⟨fun _ => ready_up .., by decide, by decide, by decide, by decide, fun _ => ready_up .., by decide, by decide, by decide⟩

theorem witness_AcknowledgedNoticesLeaveTheFlightList :
    let s := delivering 1 1
    (∀ a, Ready (ask 0x42 a s) (req 0x42 a) 0x42) ∧ (s.delivery.inFlight.map (·.sequence)).Nodup ∧
    ((req 0x42 (arg0 6)).arg 0).toNat = 6 ∧ ((req 0x42 (arg0 1)).arg 0).toNat = 1 ∧ ((req 0x42 (arg0 0)).arg 0).toNat = 0 ∧
    6 < ((req 0x42 (arg0 7)).arg 0).toNat :=
  ⟨fun _ => ready_ask _ _ _ rfl rfl (show List.length [] < 4 by decide), by decide, by decide, by decide, by decide, by decide⟩

/-! ### Witnesses: encodings and invariants -/

/-- The last tap, point, watch and group, each with a request that sends back what a read shows. -/
theorem witness_EntryReadsAndWritesAgree :
    let holds := fun (r : Request) (d : List Byte) => ∀ k b, d[k]? = some b → r.arg (k + 1) = b
    (TapEntryOk tap12 ∧ ((req 0x21 0xBF010C02000103).arg 0).toNat = 191 ∧ holds (req 0x21 0xBF010C02000103) (tapEntryData tap12)) ∧
    (let e : BindEntry := ⟨.vote, [20, 21, 22], true, 255⟩;
      e.sources.length ≤ 3 ∧ e.sources.Nodup ∧ e.hold ≤ 255 ∧ ((req 0x22 0x7F3314151601FF).arg 0).toNat = 127 ∧
        holds (req 0x22 0x7F3314151601FF) (bindEntryData e)) ∧
    (let e : WatchEntry := ⟨true, .point 64, .condition, 1, 255⟩;
      e.holdoff ≤ 255 ∧ ((req 0x23 0x2F03400501FF00).arg 0).toNat = 47 ∧ holds (req 0x23 0x2F03400501FF00) (watchEntryData e)) ∧
    (let e : PublishRecord := ⟨.down, 255, true⟩;
      e.period ≤ 255 ∧ ((req 0x24 0x0302FF01000000).arg 0).toNat = 3 ∧ holds (req 0x24 0x0302FF01000000) (publishRecordData e)) := by
  have run : ∀ (r : Request) (d : List Byte), (∀ k < d.length, d[k]? = some (r.arg (k + 1))) →
      ∀ k b, d[k]? = some b → r.arg (k + 1) = b := by
    intro r d h k b hk
    have hl := (List.getElem?_eq_some_iff.1 hk).1
    rw [h k hl] at hk; exact Option.some.inj hk
  refine ⟨⟨?_, ?_, run _ _ ?_⟩, ⟨?_, ?_, ?_, ?_, run _ _ ?_⟩, ⟨?_, ?_, run _ _ ?_⟩, ⟨?_, ?_, run _ _ ?_⟩⟩
  on_goal 1 => unfold TapEntryOk
  all_goals decide

/-- Point 127 is the last line of group 3; a report on it that waits hides what came after it from the publisher. -/
theorem witness_MadeCellsReadBackWithGoodCheck :
    let r : PointReport := ⟨127, ⟨true, true, .normal, false⟩, ⟨false, false, .failsafe, false⟩⟩
    let waiting := { up with publisher := { up.publisher with reports := [r] } }
    (127 : PointNo).val = 32 * (3 : GroupNo).val + (31 : Fin 32).val ∧ up.publisher.reports = [] ∧
    (waiting.publisher.reports = [] ++ r :: [] ∧ r.point = 127) ∧
    (groupCell up 3 5).toRaw.extractLsb' 16 112 = 0x303C030000000000000000000005#112 ∧
    (groupCell waiting 3 5).toRaw.extractLsb' 16 112 = 0x303C030080000000800000000005#112 := by
  refine ⟨?_, rfl, ⟨rfl, rfl⟩, ?_, ?_⟩ <;> decide +kernel

theorem witness_StepsKeepThePortsInOrder : PortsInv up ∧ ∃ t, step up = .next t := by
  refine ⟨?_, _, rfl⟩
  unfold PortsInv PortOk; decide

theorem witness_StepsKeepTheTapsInOrder : TapsInv up ∧ ∃ t, step up = .next t := by
  refine ⟨⟨?_, ?_, ?_, ?_, ?_⟩, _, rfl⟩
  · intro t; show TapEntryOk ((Tab.fill 192 emptyTapEntry).get t); rw [get_fill]; unfold TapEntryOk; decide
  · intro b h; cases h
  · intro c h; cases h
  · intro t; show TapEntryOk ((Tab.fill 192 emptyTapEntry).get t); rw [get_fill]; unfold TapEntryOk; decide
  · intro t
    show TapOk ((Tab.fill 192 emptyTapEntry).get t) ((Tab.fill 192 (initialTap emptyTapEntry)).get t)
    rw [get_fill, get_fill]; unfold TapOk; decide

theorem witness_StepsKeepThePointsInOrder : PointsInv up ∧ ∃ t, step up = .next t := by
  refine ⟨⟨?_, ?_, ?_⟩, _, rfl⟩
  · intro p
    show PointOk ((Tab.fill 128 emptyBindEntry).get p) ((Tab.fill 128 none).get p) ((Tab.fill 128 (initialPoint emptyBindEntry none)).get p)
    rw [get_fill, get_fill, get_fill]; unfold PointOk; decide
  · decide +kernel
  · intro p x d h
    have h : (Tab.fill 128 (none : Option ForceRecord)).get p = some x := h
    rw [get_fill] at h; cases h

theorem witness_StepsKeepTheNoticesInOrder : NoticesInv swapping ∧ ∃ t, step swapping = .next t :=
  ⟨notices_swapping, _, rfl⟩

theorem witness_StepsKeepTheBanksInOrder : BanksInv up ∧ ∃ t, step up = .next t := by
  refine ⟨⟨?_, by decide +kernel, ?_⟩, _, rfl⟩
  · unfold SessionOk; decide
  · intro b h; cases h

end Sys2Proof.Tests
end

/-! PROOFS. The tap unit: what a sample does to a tap's record (chapter 1, R9, R11 to R13). -/

namespace Sys2Proof.Machine

/-! ### The tests that a sample makes on a record -/

/-- R9: the conditions in which a trusted sample is adopted. -/
theorem adopts_iff (c : TapCond) : adopts c = true ↔ c = .pending ∨ c = .stale := by
  cases c <;> simp [adopts]

/-- R9: the conditions in which a trusted sample is qualified. -/
theorem adopts_eq_false_iff (c : TapCond) : adopts c = false ↔ c = .live ∨ c = .suspect := by
  cases c <;> simp [adopts]

theorem runAfter_eq (raw : Bool) (r : TapRecord) :
    runAfter raw r = if 0 < r.run ∧ raw = r.candidate then r.run + 1 else 1 := by
  simp [runAfter]

theorem transitions_iff (e : TapEntry) (raw : Bool) (r : TapRecord) :
    transitions e raw r = true ↔ raw ≠ r.qualified ∧ e.qualify ≤ runAfter raw r := by
  simp [transitions]

/-! ### Qualification -/

section Qualify

variable {e : TapEntry} {raw : Bool} {r : TapRecord}

/-- R12: a sample that equals the qualified value ends the count. -/
theorem qualify_of_eq (h : raw = r.qualified) : qualify e raw r = { r with cond := .live, run := 0 } := by
  simp [qualify, h]

/-- R12: a differing sample that leaves the count below Q. -/
theorem qualify_of_lt (h : raw ≠ r.qualified) (hq : runAfter raw r < e.qualify) :
    qualify e raw r = { r with cond := .live, candidate := raw, run := runAfter raw r } := by
  have ht : ¬transitions e raw r = true := fun ht => Nat.not_le.2 hq ((transitions_iff e raw r).1 ht).2
  simp [qualify, h, ht]

/-- R12: a differing sample that brings the count to Q is a value transition. -/
theorem qualify_of_le (h : raw ≠ r.qualified) (hq : e.qualify ≤ runAfter raw r) :
    qualify e raw r =
      { r with cond := .live, qualified := raw, candidate := raw, run := 0, changes := r.changes + 1 } := by
  have ht : transitions e raw r = true := (transitions_iff e raw r).2 ⟨h, hq⟩
  simp [qualify, h, ht]

end Qualify

/-! ### The three ways of taking a sample -/

@[simp] theorem takeSample_untrusted (e : TapEntry) (raw : Bool) (r : TapRecord) :
    takeSample e raw false r = distrust (sampled e r) := rfl

theorem takeSample_adopted (e : TapEntry) (raw : Bool) {r : TapRecord} (h : r.cond = .pending ∨ r.cond = .stale) :
    takeSample e raw true r = adopt raw (sampled e r) := by
  simp [takeSample, (adopts_iff r.cond).2 h]

theorem takeSample_qualified (e : TapEntry) (raw : Bool) {r : TapRecord} (h : r.cond = .live ∨ r.cond = .suspect) :
    takeSample e raw true r = qualify e raw (sampled e r) := by
  simp [takeSample, (adopts_eq_false_iff r.cond).2 h]

/-- Settles O13: each way of taking a sample acts on the record that R9 has set age and spacing in, and R9 leaves
every field that qualification tests as it was. -/
theorem samplesAreAdoptedQualifiedOrDistrusted : Obligations.SamplesAreAdoptedQualifiedOrDistrusted := by
  intro e raw r n
  have hn : runAfter raw (sampled e r) = n := runAfter_eq raw r
  refine ⟨takeSample_untrusted e raw r, fun hadopt => ?adopted, fun hqualify =>
    ⟨fun heq => ?equal, fun hne hlt => ?counted, fun hne hle => ?reached⟩⟩
  case adopted => simp [takeSample_adopted e raw hadopt, adopt, sampled]
  all_goals rw [takeSample_qualified e raw hqualify]
  case equal => exact qualify_of_eq heq
  case counted => rw [← hn] at hlt ⊢; exact qualify_of_lt hne hlt
  case reached => exact qualify_of_le hne (hn ▸ hle)

end Sys2Proof.Machine

/-! PROOFS. The cross-connect: what the combine functions make of their sources (chapter 2, R29 to R32). -/

namespace Sys2Proof.Machine

/-! ### The usable sources of a list -/

theorem all_isSome_iff (l : List (Option Bool)) :
    l.all Option.isSome = true ↔ (l.filterMap id).length = l.length := by
  simp [List.filterMap_length_eq_length]

theorem any_isSome_iff (l : List (Option Bool)) : l.any Option.isSome = true ↔ l.filterMap id ≠ [] := by
  simp [List.filterMap_eq_nil_iff, Option.isSome_iff_ne_none]

theorem mem_usable (l : List (Option Bool)) (v : Bool) : v ∈ l.filterMap id ↔ some v ∈ l := by simp

/-- R30: a list gives NORMAL when as many of its sources are usable as it has. -/
theorem fullOrDegraded_eq (l : List (Option Bool)) :
    fullOrDegraded l = if (l.filterMap id).length = l.length then .normal else .degraded := by
  simp only [fullOrDegraded, all_isSome_iff]

/-! ### Each function by the usable sources -/

/-- R29: FOLLOW of any number of sources but one is undefined. -/
theorem combineFollow_of_length_ne {l : List (Option Bool)} (h : l.length ≠ 1) : combineFollow l = none := by
  match l with
  | [] => rfl
  | [_] => exact absurd rfl h
  | _ :: _ :: _ => simp [combineFollow]

theorem combineAny_eq (l : List (Option Bool)) : combineAny l =
    if l.filterMap id ≠ [] then some (decide (true ∈ l.filterMap id), fullOrDegraded l) else none := by
  have hany : l.any (· == some true) = decide (true ∈ l.filterMap id) := by
    rw [Bool.eq_iff_iff]; simp
  simp only [combineAny, any_isSome_iff, hany]

theorem combineAll_eq (l : List (Option Bool)) : combineAll l =
    if l ≠ [] ∧ (l.filterMap id).length = l.length then some (decide (false ∉ l.filterMap id), .normal)
    else none := by
  have hguard : (!l.isEmpty && l.all Option.isSome) = true ↔ l ≠ [] ∧ (l.filterMap id).length = l.length := by
    rw [Bool.and_eq_true, all_isSome_iff]; simp
  rw [combineAll]
  simp only [hguard]
  split
  · next h =>
    have hsome : ∀ x ∈ l, x.isSome = true := by simpa using (all_isSome_iff l).2 h.2
    have hall : l.all (· == some true) = decide (false ∉ l.filterMap id) := by
      rw [Bool.eq_iff_iff, decide_eq_true_iff, mem_usable, List.all_eq_true]
      constructor
      · intro h hf
        simpa using h _ hf
      · intro h x hx
        rcases x with _ | _ | _
        · simpa using hsome _ hx
        · exact absurd hx h
        · rfl
    rw [hall]
  · rfl

/-- R31: the result of a VOTE by how many of its usable sources are 1 and how many are 0. -/
def voteOf (usable : List Bool) : CombineResult :=
  if usable.length = 3 then some (decide (2 ≤ usable.count true), .normal)
  else if usable.count true = 2 then some (true, .degraded)
  else if usable.count false = 2 then some (false, .degraded)
  else none

theorem combineVote_eq (l : List (Option Bool)) :
    combineVote l = if l.length = 3 then voteOf (l.filterMap id) else none := by
  match l with
  | [] | [_] | [_, _] => simp [combineVote]
  | [a, b, c] => revert a b c; decide
  | _ :: _ :: _ :: _ :: _ => simp [combineVote]

theorem voteOf_pair (a b : Bool) : voteOf [a, b] = if a = b then some (a, .degraded) else none := by
  revert a b; decide

/-- R31: two sources are needed to agree. -/
theorem voteOf_of_length_le_one {u : List Bool} (h : u.length ≤ 1) : voteOf u = none := by
  have hone := u.count_le_length (a := true)
  have hzero := u.count_le_length (a := false)
  rw [voteOf, if_neg (by omega), if_neg (by omega), if_neg (by omega)]

theorem voteOf_perm {u v : List Bool} (h : u.Perm v) : voteOf u = voteOf v := by
  simp only [voteOf, h.length_eq, h.count_eq]

/-! ### No sources, and the order of the sources -/

/-- R32: a point without sources has no result. -/
theorem combine_nil (fn : Combine) : combine fn [] = none := by cases fn <;> rfl

theorem combineFollow_perm {l l' : List (Option Bool)} (h : l.Perm l') : combineFollow l = combineFollow l' := by
  by_cases hl : l.length = 1
  · obtain ⟨v, rfl⟩ := List.length_eq_one_iff.1 hl
    rw [List.singleton_perm.1 h]
  · rw [combineFollow_of_length_ne hl, combineFollow_of_length_ne (h.length_eq ▸ hl)]

/-- R29 to R31 speak of which sources are usable and of their values, not of the order they are listed in. -/
theorem combine_perm (fn : Combine) {l l' : List (Option Bool)} (h : l.Perm l') : combine fn l = combine fn l' := by
  cases fn with
  | follow => exact combineFollow_perm h
  | any => simp only [combine, combineAny, fullOrDegraded, h.any_eq, h.all_eq]
  | all => simp only [combine, combineAll, h.all_eq, h.isEmpty_eq]
  | vote => simp only [combine, combineVote_eq, h.length_eq, voteOf_perm (h.filterMap id)]

/-- Settles O23: each function is read off the usable sources alone, and these are permuted with the list. -/
theorem combineFunctionsVoteOverUsableSources : Obligations.CombineFunctionsVoteOverUsableSources := by
  intro l _ usable
  refine ⟨combine_nil, fun _ => rfl, rfl, fun hne => ?anySome, fun he => ?anyNone, fun hne hfull => ?allFull,
    fun hlt => ?allShort, fun h3 => ?vote, fun fn l' h => combine_perm fn h⟩
  case anySome => rw [combine, combineAny_eq, if_pos hne, fullOrDegraded_eq]
  case anyNone => rw [combine, combineAny_eq, if_neg (not_not.2 he)]
  case allFull => rw [combine, combineAll_eq, if_pos ⟨hne, hfull⟩]
  case allShort => rw [combine, combineAll_eq, if_neg fun h => hlt.ne h.2]
  case vote =>
    have hvote : combine .vote l = voteOf usable := by rw [combine, combineVote_eq, if_pos h3]
    rw [hvote]
    exact ⟨fun h => if_pos h, fun a b h => h ▸ voteOf_pair a b, voteOf_of_length_le_one⟩

end Sys2Proof.Machine

/-! PROOFS. The force requests: FORCE-POINT and RELEASE-POINT (chapter 2.6, R39 to R42). -/

namespace Sys2Proof.Machine

/-! ### The force table -/

/-- R40: the force table counted at one point and at all others. -/
theorem forceCount_eq_add (s : State) (p : PointNo) : forceCount s =
    (s.xc.forces.get p).isSome.toNat + ∑ q ∈ Finset.univ.erase p, (s.xc.forces.get q).isSome.toNat := by
  have hsum : forceCount s = ∑ q : PointNo, (s.xc.forces.get q).isSome.toNat := by
    simp only [Bool.toNat, Bool.cond_eq_ite, Finset.sum_boole, Nat.cast_id]
    rw [forceCount, indices_eq, ← List.toFinset_card_of_nodup ((List.nodup_finRange 128).filter _)]
    congr 1
    ext q
    simp
  rw [hsum, Finset.add_sum_erase _ (fun q => (s.xc.forces.get q).isSome.toNat) (Finset.mem_univ p)]

@[simp] theorem setForce_forces (p : PointNo) (f : Option ForceRecord) (s : State) :
    (setForce p f s).xc.forces = s.xc.forces.set p f := rfl

/-- R40: a change at one point moves the count by what stands there before and after. -/
theorem forceCount_setForce (p : PointNo) (f : Option ForceRecord) (s : State) :
    forceCount (setForce p f s) + (s.xc.forces.get p).isSome.toNat = forceCount s + f.isSome.toNat := by
  have hothers : ∑ q ∈ Finset.univ.erase p, ((s.xc.forces.set p f).get q).isSome.toNat =
      ∑ q ∈ Finset.univ.erase p, (s.xc.forces.get q).isSome.toNat :=
    Finset.sum_congr rfl fun q hq => by rw [get_set_ne _ (Finset.ne_of_mem_erase hq).symm]
  rw [forceCount_eq_add s p, forceCount_eq_add (setForce p f s) p, setForce_forces, hothers, get_set_self]
  omega

theorem freeForces_setForce (p : PointNo) (f : Option ForceRecord) (s : State) :
    freeForces (setForce p f s) = 16 - (forceCount s + f.isSome.toNat - (s.xc.forces.get p).isSome.toNat) := by
  rw [← forceCount_setForce, Nat.add_sub_cancel]; rfl

/-! ### What the requests read of their arguments -/

theorem pointNo?_eq_some {b : Byte} {p : PointNo} (h : p.val = b.toNat) : pointNo? b = some p := by
  have hb : b.toNat < 128 := h ▸ p.isLt
  simp [pointNo?, hb, Fin.ext_iff, h]

theorem pointNo?_eq_none {b : Byte} (h : 128 ≤ b.toNat) : pointNo? b = none := by
  simp [pointNo?, Nat.not_lt.2 h]

/-- R41: the force record that a FORCE-POINT asks for. -/
def requestedForce (r : Request) : ForceRecord :=
  ⟨decide (r.arg 1 = 1), r.originator,
    if (r.arg 2 ++ r.arg 3).toNat = 0 then none else some (r.arg 2 ++ r.arg 3).toNat⟩

theorem durationOf_eq (w : Word16) : durationOf w = if w.toNat = 0 then none else some w.toNat := by
  have hzero : w = 0 ↔ w.toNat = 0 := BitVec.toNat_inj.symm
  simp only [durationOf, hzero]

theorem lowBit_of_le_one {b : Byte} (h : b.toNat ≤ 1) : b.getLsbD 0 = decide (b = 1) := by
  rcases Nat.le_one_iff_eq_zero_or_eq_one.1 h with h0 | h1
  · rw [show b = 0 from BitVec.eq_of_toNat_eq h0]; rfl
  · rw [show b = 1 from BitVec.eq_of_toNat_eq h1]; rfl

/-- R41: the record that FORCE-POINT makes of a value in range. -/
theorem requestedForce_eq {r : Request} (hv : (r.arg 1).toNat ≤ 1) :
    (⟨(r.arg 1).getLsbD 0, r.originator, durationOf (r.arg16 2)⟩ : ForceRecord) = requestedForce r := by
  rw [lowBit_of_le_one hv, durationOf_eq]; rfl

/-! ### The two operations, outcome by outcome -/

theorem runForcePoint_outOfRange {r : Request} (s : State) (h : 128 ≤ (r.arg 0).toNat ∨ 2 ≤ (r.arg 1).toNat) :
    runForcePoint r s = (s, outOfRange) := by
  unfold runForcePoint
  split
  · rfl
  · next p hp =>
    have hpoint : (r.arg 0).toNat < 128 := by
      by_contra hc
      rw [pointNo?_eq_none (Nat.not_lt.1 hc)] at hp
      cases hp
    exact if_pos (by omega)

theorem runReleasePoint_outOfRange {r : Request} (s : State) (h : 128 ≤ (r.arg 0).toNat) :
    runReleasePoint r s = (s, outOfRange) := by
  simp only [runReleasePoint, pointNo?_eq_none h]

section InRange

variable {s : State} {r : Request} {p : PointNo} {x : ForceRecord}

theorem runForcePoint_created (hp : p.val = (r.arg 0).toNat) (hv : (r.arg 1).toNat ≤ 1)
    (h : s.xc.forces.get p = none) (hroom : forceCount s < 16) :
    runForcePoint r s = forceWith 1 p (requestedForce r) s := by
  simp only [runForcePoint, pointNo?_eq_some hp, if_neg (Nat.not_lt.2 hv), requestedForce_eq hv, h]
  exact if_pos hroom

theorem runForcePoint_full (hp : p.val = (r.arg 0).toNat) (hv : (r.arg 1).toNat ≤ 1)
    (h : s.xc.forces.get p = none) (hfull : forceCount s = 16) :
    runForcePoint r s = (s, ⟨.full, [0, 0]⟩) := by
  simp [runForcePoint, pointNo?_eq_some hp, Nat.not_lt.2 hv, h, hfull, freeForces, countByte, Config.forceCapacity]

theorem runForcePoint_replaced (hp : p.val = (r.arg 0).toNat) (hv : (r.arg 1).toNat ≤ 1)
    (h : s.xc.forces.get p = some x) (hown : x.owner = r.originator) :
    runForcePoint r s = forceWith 2 p (requestedForce r) s := by
  simp only [runForcePoint, pointNo?_eq_some hp, if_neg (Nat.not_lt.2 hv), requestedForce_eq hv, h, if_pos hown]

theorem runForcePoint_held (hp : p.val = (r.arg 0).toNat) (hv : (r.arg 1).toNat ≤ 1)
    (h : s.xc.forces.get p = some x) (hown : x.owner ≠ r.originator) :
    runForcePoint r s = (s, heldBy x.owner) := by
  simp only [runForcePoint, pointNo?_eq_some hp, if_neg (Nat.not_lt.2 hv), h, if_neg hown]

theorem runReleasePoint_unforced (hp : p.val = (r.arg 0).toNat) (h : s.xc.forces.get p = none) :
    runReleasePoint r s = (s, ⟨.ok, [4, countByte (freeForces s)]⟩) := by
  simp only [runReleasePoint, pointNo?_eq_some hp, h]

theorem runReleasePoint_released (hp : p.val = (r.arg 0).toNat) (h : s.xc.forces.get p = some x)
    (hown : x.owner = r.originator) :
    runReleasePoint r s = (setForce p none s, ⟨.ok, [3, countByte (freeForces (setForce p none s))]⟩) := by
  simp only [runReleasePoint, pointNo?_eq_some hp, h, if_pos hown]

theorem runReleasePoint_held (hp : p.val = (r.arg 0).toNat) (h : s.xc.forces.get p = some x)
    (hown : x.owner ≠ r.originator) : runReleasePoint r s = (s, heldBy x.owner) := by
  simp only [runReleasePoint, pointNo?_eq_some hp, h, if_neg hown]

end InRange

/-! ### The answer, and the report of the point -/

theorem exec_forcePoint {s : State} {r : Request} (h : Ready s r 0x39) : exec .forcePoint s =
    .next (respond r (runForcePoint r (dequeued r s)).2 (runForcePoint r (dequeued r s)).1) :=
  congrArg Host.Outcome.next (takeIf_ready h (names .forcePoint) runForcePoint rfl)

theorem exec_releasePoint {s : State} {r : Request} (h : Ready s r 0x3A) : exec .releasePoint s =
    .next (respond r (runReleasePoint r (dequeued r s)).2 (runReleasePoint r (dequeued r s)).1) :=
  congrArg Host.Outcome.next (takeIf_ready h (names .releasePoint) runReleasePoint rfl)

/-- R39: one report when something that R39 compares differs, else none. -/
theorem pointReport_toList (p : PointNo) (a b : PointFace) : (pointReport p a b).toList =
    if a.value = b.value ∧ a.quality = b.quality ∧ a.cond = b.cond ∧ a.forced = b.forced then []
    else [⟨p, a, b⟩] := by
  have hab : (a == b) = true ↔ a.value = b.value ∧ a.quality = b.quality ∧ a.cond = b.cond ∧ a.forced = b.forced := by
    rw [beq_iff_eq, PointFace.mk.injEq]
  simp only [pointReport, hab]
  split <;> rfl

/-- R38, R39: the reports of a point that is recomputed as its force record becomes `f`. -/
def forceReports (s : State) (p : PointNo) (f : Option ForceRecord) : List PointReport :=
  let x := s.xc.records.get p
  let y := recomputed s (s.xc.entries.get p) f x
  if x.published = y.published ∧ x.quality = y.quality ∧ x.cond = y.cond ∧ (s.xc.forces.get p).isSome = f.isSome then []
  else [⟨p, pointFace (s.xc.forces.get p) x, pointFace f y⟩]

/-- R38, R41, R42: the cross-connect as a point's force record becomes `f` and the point is recomputed. -/
def xcForced (s : State) (p : PointNo) (f : Option ForceRecord) : CrossConnect :=
  { s.xc with
    forces := s.xc.forces.set p f
    records := s.xc.records.set p (recomputed s (s.xc.entries.get p) f (s.xc.records.get p))
    unseen := 0 }

theorem setForce_eq (p : PointNo) (f : Option ForceRecord) (s : State) :
    setForce p f s = toldOfPoints { s with xc := xcForced s p f } 0 (forceReports s p f) := by
  rw [setForce, reportPoints_eq, pointReport_toList]; rfl

/-- R41, R42: the part after a request that sets the force record of a point: the answer's mark and count of free
records, the point recomputed, and its reports. -/
def forceAnswered (s : State) (r : Request) (p : PointNo) (f : Option ForceRecord) (mark : Byte) (free : Nat) : State :=
  toldOfPoints { answered s r 0 [mark, BitVec.ofNat 8 free] with xc := xcForced s p f } 0 (forceReports s p f)

/-- R160 to R163: the taking of the request and the change of the cross-connect touch different parts of the state. -/
theorem respond_setForce {s : State} {p : PointNo} {f : Option ForceRecord} {free : Nat} (r : Request) (mark : Byte)
    (hfree : freeForces (setForce p f s) = free) :
    respond r ⟨.ok, [mark, countByte (freeForces (setForce p f (dequeued r s)))]⟩ (setForce p f (dequeued r s)) =
      forceAnswered s r p f mark free := by
  subst hfree
  rw [forceAnswered, setForce_eq p f (dequeued r s)]
  exact congrArg (fun t => toldOfPoints { t with xc := xcForced s p f } 0 (forceReports s p f))
    (respond_dequeued r ⟨.ok, [mark, countByte (freeForces (setForce p f s))]⟩ s)

/-! ### The two requests, outcome by outcome -/

section Outcomes

variable {s : State} {r : Request} {p : PointNo} {x : ForceRecord}

theorem exec_forcePoint_created (hr : Ready s r 0x39) (hp : p.val = (r.arg 0).toNat) (hv : (r.arg 1).toNat ≤ 1)
    (h : s.xc.forces.get p = none) (hroom : forceCount s < 16) :
    exec .forcePoint s = .next (forceAnswered s r p (some (requestedForce r)) 1 (15 - forceCount s)) := by
  have hfree : freeForces (setForce p (some (requestedForce r)) s) = 15 - forceCount s := by
    simp only [freeForces_setForce, h, Option.isSome_none, Option.isSome_some, Bool.toNat_true, Bool.toNat_false]; omega
  rw [exec_forcePoint hr, runForcePoint_created (s := dequeued r s) hp hv h hroom, ← respond_setForce r 1 hfree]; rfl

theorem exec_forcePoint_full (hr : Ready s r 0x39) (hp : p.val = (r.arg 0).toNat) (hv : (r.arg 1).toNat ≤ 1)
    (h : s.xc.forces.get p = none) (hfull : forceCount s = 16) :
    exec .forcePoint s = .next (answered s r 7 [0, 0]) := by
  rw [exec_forcePoint hr, runForcePoint_full (s := dequeued r s) hp hv h hfull, respond_dequeued]; rfl

theorem exec_forcePoint_replaced (hr : Ready s r 0x39) (hp : p.val = (r.arg 0).toNat) (hv : (r.arg 1).toNat ≤ 1)
    (h : s.xc.forces.get p = some x) (hown : x.owner = r.originator) :
    exec .forcePoint s = .next (forceAnswered s r p (some (requestedForce r)) 2 (16 - forceCount s)) := by
  have hfree : freeForces (setForce p (some (requestedForce r)) s) = 16 - forceCount s := by
    simp only [freeForces_setForce, h, Option.isSome_some, Bool.toNat_true]; omega
  rw [exec_forcePoint hr, runForcePoint_replaced (s := dequeued r s) hp hv h hown, ← respond_setForce r 2 hfree]; rfl

theorem exec_forcePoint_held (hr : Ready s r 0x39) (hp : p.val = (r.arg 0).toNat) (hv : (r.arg 1).toNat ≤ 1)
    (h : s.xc.forces.get p = some x) (hown : x.owner ≠ r.originator) :
    exec .forcePoint s = .next (answered s r 6 [0, 0, x.owner.setWidth 8]) := by
  rw [exec_forcePoint hr, runForcePoint_held (s := dequeued r s) hp hv h hown, respond_dequeued]; rfl

theorem exec_forcePoint_outOfRange (hr : Ready s r 0x39) (h : 128 ≤ (r.arg 0).toNat ∨ 2 ≤ (r.arg 1).toNat) :
    exec .forcePoint s = .next (answered s r 4 []) := by
  rw [exec_forcePoint hr, runForcePoint_outOfRange _ h, respond_dequeued]; rfl

theorem exec_releasePoint_unforced (hr : Ready s r 0x3A) (hp : p.val = (r.arg 0).toNat)
    (h : s.xc.forces.get p = none) :
    exec .releasePoint s = .next (answered s r 0 [4, BitVec.ofNat 8 (16 - forceCount s)]) := by
  rw [exec_releasePoint hr, runReleasePoint_unforced (s := dequeued r s) hp h, respond_dequeued]; rfl

theorem exec_releasePoint_released (hr : Ready s r 0x3A) (hp : p.val = (r.arg 0).toNat)
    (h : s.xc.forces.get p = some x) (hown : x.owner = r.originator) :
    exec .releasePoint s = .next (forceAnswered s r p none 3 (17 - forceCount s)) := by
  have hcount := forceCount_setForce p none s
  have hfree : freeForces (setForce p none s) = 17 - forceCount s := by
    simp only [h, Option.isSome_some, Option.isSome_none, Bool.toNat_true, Bool.toNat_false] at hcount
    simp only [freeForces, Config.forceCapacity]; omega
  rw [exec_releasePoint hr, runReleasePoint_released (s := dequeued r s) hp h hown, ← respond_setForce r 3 hfree]

theorem exec_releasePoint_held (hr : Ready s r 0x3A) (hp : p.val = (r.arg 0).toNat)
    (h : s.xc.forces.get p = some x) (hown : x.owner ≠ r.originator) :
    exec .releasePoint s = .next (answered s r 6 [0, 0, x.owner.setWidth 8]) := by
  rw [exec_releasePoint hr, runReleasePoint_held (s := dequeued r s) hp h hown, respond_dequeued]; rfl

theorem exec_releasePoint_outOfRange (hr : Ready s r 0x3A) (h : 128 ≤ (r.arg 0).toNat) :
    exec .releasePoint s = .next (answered s r 4 []) := by
  rw [exec_releasePoint hr, runReleasePoint_outOfRange _ h, respond_dequeued]; rfl

end Outcomes

/-- Settles O49: the record that stands at the point, its owner and the room in the table select one outcome each. -/
theorem forcesAreMadeReplacedAndReleased : Obligations.ForcesAreMadeReplacedAndReleased := by
  refine ⟨fun s r => ⟨exec_forcePoint_outOfRange, exec_releasePoint_outOfRange⟩, fun s r p hp _ => ⟨?force, ?release⟩⟩
  case force =>
    exact fun hr hv => ⟨exec_forcePoint_created hr hp hv, exec_forcePoint_full hr hp hv,
      fun _ => exec_forcePoint_replaced hr hp hv, fun _ => exec_forcePoint_held hr hp hv⟩
  case release =>
    exact fun hr => ⟨exec_releasePoint_unforced hr hp, fun _ => exec_releasePoint_released hr hp,
      fun _ => exec_releasePoint_held hr hp⟩

end Sys2Proof.Machine

/-! PROOFS. The notice queue: where a raised notice stands, and what a full queue loses to it (chapter 3, R59, R60). -/

namespace Sys2Proof.Machine

/-! ### The place of a notice in the queue -/

/-- R59: the queue cut at the place of a notice, with the notice between the two parts. -/
def placedByClass (n : Notice) (q : List Notice) : List Notice :=
  q.filter (fun m => m.cls ≤ n.cls) ++ n :: q.filter (fun m => n.cls < m.cls)

theorem placedByClass_cons_of_le {n m : Notice} (h : m.cls ≤ n.cls) (q : List Notice) :
    placedByClass n (m :: q) = m :: placedByClass n q := by
  simp [placedByClass, h, not_lt.2 h]

theorem placedByClass_of_forall_lt {n : Notice} {q : List Notice} (h : ∀ m ∈ q, n.cls < m.cls) :
    placedByClass n q = n :: q := by
  have hle : q.filter (fun m => m.cls ≤ n.cls) = [] := by simpa [List.filter_eq_nil_iff] using h
  have hlt : q.filter (fun m => n.cls < m.cls) = q := by simpa [List.filter_eq_self] using h
  rw [placedByClass, hle, hlt, List.nil_append]

/-- R59: insertion stops at the first less urgent notice; in class order no notice behind it has to be passed. -/
theorem insertNotice_eq_placedByClass (n : Notice) (q : List Notice) (h : q.Pairwise (fun a b => a.cls ≤ b.cls)) :
    insertNotice n q = placedByClass n q := by
  induction q with
  | nil => rfl
  | cons m q ih =>
    obtain ⟨hm, hq⟩ := List.pairwise_cons.1 h
    rw [insertNotice]
    split
    case isTrue hle => rw [ih hq, placedByClass_cons_of_le hle]
    case isFalse hgt =>
      have hlt : n.cls < m.cls := not_le.1 hgt
      rw [placedByClass_of_forall_lt]
      rintro x (_ | ⟨_, hx⟩)
      · exact hlt
      · exact hlt.trans_le (hm x hx)

/-! ### The outcomes of a raise -/

section Outcomes

variable {n m : Notice} {s : State} {q : List Notice}

theorem displaceLast_concat (h : s.notice.queue = q ++ [m]) : displaceLast s =
    countLost ((s.withQueue q).onWatch m.watch fun r => { r with queued := false }) := by
  simp only [displaceLast, h, List.getLast?_concat, List.dropLast_concat]

theorem offerNotice_of_room (h : s.notice.queue.length < 24) : offerNotice n s = enqueueNotice n s := if_pos h

theorem offerNotice_displaces (hfull : 24 ≤ s.notice.queue.length) (h : ∃ m ∈ s.notice.queue, n.cls < m.cls) :
    offerNotice n s = enqueueNotice n ((displaceLast s).indicate .overflow) := by
  rw [offerNotice, if_neg (Nat.not_lt.2 hfull), if_pos (by simpa using h)]

theorem offerNotice_drops (hfull : 24 ≤ s.notice.queue.length) (h : ∀ m ∈ s.notice.queue, m.cls ≤ n.cls) :
    offerNotice n s = (countLost s).indicate .overflow := by
  rw [offerNotice, if_neg (Nat.not_lt.2 hfull), if_neg (by simpa using h)]

/-- R58, R59: what the insertion into a queue in class order writes. -/
theorem enqueueNotice_eq (h : s.notice.queue.Pairwise (fun a b => a.cls ≤ b.cls)) : enqueueNotice n s =
    (s.withQueue (placedByClass n s.notice.queue)).onWatch n.watch fun r =>
      { r with queued := true, holdoff := (s.notice.entries.get n.watch).holdoff } := by
  rw [enqueueNotice, insertNotice_eq_placedByClass n _ h]

/-- R60: the insertion after a displacement. The two watches differ, so that the mark of the one leaves the record of
the other as it was. -/
theorem enqueueNotice_displaceLast (hs : s.notice.queue.Pairwise (fun a b => a.cls ≤ b.cls))
    (hq : s.notice.queue = q ++ [m]) (hw : m.watch ≠ n.watch) :
    enqueueNotice n ((displaceLast s).indicate .overflow) =
      { s with
        notice := { s.notice with
          queue := placedByClass n q
          records := (s.notice.records.set m.watch { s.notice.records.get m.watch with queued := false }).set n.watch
            { s.notice.records.get n.watch with
              queued := true, holdoff := (s.notice.entries.get n.watch).holdoff }
          lost := s.notice.lost + 1 }
        engine := { s.engine with indicators := s.engine.indicators ||| indicatorBit .overflow } } := by
  have hsq : q.Pairwise (fun a b => a.cls ≤ b.cls) := (List.pairwise_append.1 (hq ▸ hs)).1
  have hget := get_set_ne s.notice.records hw { s.notice.records.get m.watch with queued := false }
  rw [displaceLast_concat hq, enqueueNotice_eq (by exact hsq), ← hget]
  rfl

end Outcomes

/-- Settles O28: whether the queue has room, and else whether any queued notice is less urgent, selects one outcome. -/
theorem raisedNoticesEnterTheQueueByClass : Obligations.RaisedNoticesEnterTheQueueByClass := by
  refine fun n s hs => ⟨fun hroom => ?room, fun hfull => ⟨fun q m hq hlt hw => ?displaced, fun hle => ?dropped⟩⟩
  case room => rw [offerNotice_of_room hroom, enqueueNotice_eq hs]; rfl
  case displaced =>
    have hm : m ∈ s.notice.queue := by simp [hq]
    rw [offerNotice_displaces hfull ⟨m, hm, hlt⟩, enqueueNotice_displaceLast hs hq hw]; rfl
  case dropped => rw [offerNotice_drops hfull hle]; rfl

end Sys2Proof.Machine

/-! PROOFS. The delivery side: what an ACK-NOTICE finds in flight, and what it leaves (chapter 4, R83). -/

namespace Sys2Proof.Machine

/-! ### The records that a list leaves in flight -/

/-- R83: the records in flight whose sequence numbers a list does not hold. -/
def unlisted (l : List Byte) (fs : List FlightRecord) : List FlightRecord := fs.filter fun f => f.sequence ∉ l

@[simp] theorem unlisted_nil (fs : List FlightRecord) : unlisted [] fs = fs := by simp [unlisted]

theorem unlisted_unlisted_singleton (seq : Byte) (l : List Byte) (fs : List FlightRecord) :
    unlisted l (unlisted [seq] fs) = unlisted (seq :: l) fs := by
  simp [unlisted, List.filter_filter, Bool.and_comm]

theorem length_unlisted_le (l : List Byte) (fs : List FlightRecord) : (unlisted l fs).length ≤ fs.length :=
  List.length_filter_le ..

theorem mem_sequences_unlisted {l : List Byte} {fs : List FlightRecord} {q : Byte} :
    q ∈ (unlisted l fs).map (·.sequence) ↔ q ∈ fs.map (·.sequence) ∧ q ∉ l := by
  simp only [unlisted, List.mem_map, List.mem_filter, decide_eq_true_eq]; grind

theorem unlisted_singleton_of_notMem {seq : Byte} {fs : List FlightRecord} (h : seq ∉ fs.map (·.sequence)) :
    unlisted [seq] fs = fs := by
  rw [unlisted, List.filter_eq_self]
  intro f hf
  have hne : f.sequence ≠ seq := fun e => h (e ▸ List.mem_map_of_mem hf)
  simpa using hne

theorem nodup_sequences_unlisted {fs : List FlightRecord} (l : List Byte) (h : (fs.map (·.sequence)).Nodup) :
    ((unlisted l fs).map (·.sequence)).Nodup :=
  h.sublist (List.filter_sublist.map _)

/-- R83: among distinct sequence numbers the first record of a number is its only one. -/
theorem eraseP_sequence_eq_unlisted {fs : List FlightRecord} (seq : Byte) (h : (fs.map (·.sequence)).Nodup) :
    fs.eraseP (fun f => f.sequence == seq) = unlisted [seq] fs := by
  induction fs with
  | nil => rfl
  | cons f fs ih =>
    obtain ⟨hf, hfs⟩ := List.nodup_cons.1 h
    by_cases e : f.sequence = seq
    · have hrest : unlisted [seq] fs = fs := unlisted_singleton_of_notMem (e ▸ hf)
      have hhead : unlisted [seq] (f :: fs) = unlisted [seq] fs := List.filter_cons_of_neg (by simp [e])
      rw [hhead, hrest, List.eraseP_cons_of_pos (by simp [e])]
    · have hhead : unlisted [seq] (f :: fs) = f :: unlisted [seq] fs := List.filter_cons_of_pos (by simp [e])
      rw [hhead, List.eraseP_cons_of_neg (by simp [e]), ih hfs]

/-! ### The state after a list -/

/-- R83: the state with the records of a list removed from those in flight, and their number acknowledged. -/
def withAcked (l : List Byte) (s : State) : State :=
  { s with
    delivery := { s.delivery with inFlight := unlisted l s.delivery.inFlight }
    notice := { s.notice with
      acknowledged := s.notice.acknowledged +
        BitVec.ofNat 32 (s.delivery.inFlight.length - (unlisted l s.delivery.inFlight).length) } }

theorem withAcked_of_unlisted_eq {l : List Byte} {s : State} (h : unlisted l s.delivery.inFlight = s.delivery.inFlight) :
    withAcked l s = s := by
  simp [withAcked, h]

/-- R83: what one number acknowledges and what the rest of the list then does add up. -/
theorem withAcked_withAcked_singleton (seq : Byte) (l : List Byte) (s : State) :
    withAcked l (withAcked [seq] s) = withAcked (seq :: l) s := by
  have hfirst := length_unlisted_le [seq] s.delivery.inFlight
  have hrest := length_unlisted_le l (unlisted [seq] s.delivery.inFlight)
  simp only [withAcked, unlisted_unlisted_singleton, add_assoc, ← BitVec.ofNat_add] at hrest ⊢
  rw [Nat.sub_add_sub_cancel hfirst hrest]

/-- R83: one number of the list. -/
theorem ackOne_eq {s : State} (seq : Byte) (h : (s.delivery.inFlight.map (·.sequence)).Nodup) :
    ackOne seq s = (decide (seq ∈ s.delivery.inFlight.map (·.sequence)), withAcked [seq] s) := by
  by_cases hseq : seq ∈ s.delivery.inFlight.map (·.sequence)
  · obtain ⟨f, hf, hfseq⟩ := List.mem_map.1 hseq
    have hany : (s.delivery.inFlight.any fun f => f.sequence == seq) = true :=
      List.any_eq_true.2 ⟨f, hf, by simpa using hfseq⟩
    have hlen := List.length_eraseP_of_mem (p := fun f => f.sequence == seq) hf (by simpa using hfseq)
    have hone : s.delivery.inFlight.length - (unlisted [seq] s.delivery.inFlight).length = 1 := by
      have hpos := List.length_pos_of_mem hf
      rw [← eraseP_sequence_eq_unlisted seq h]; omega
    rw [ackOne, if_pos hany, eraseP_sequence_eq_unlisted seq h, decide_eq_true hseq, withAcked, hone]; rfl
  · have hany : ¬(s.delivery.inFlight.any fun f => f.sequence == seq) = true := by simpa using hseq
    rw [ackOne, if_neg hany, decide_eq_false hseq, withAcked_of_unlisted_eq (unlisted_singleton_of_notMem hseq)]

theorem ackAll_cons {s : State} (seq : Byte) (l : List Byte) (k : Nat)
    (h : (s.delivery.inFlight.map (·.sequence)).Nodup) : ackAll (seq :: l) k s =
      (if seq ∈ s.delivery.inFlight.map (·.sequence) then (ackAll l (k + 1) (withAcked [seq] s)).1 ||| (1 <<< k)
        else (ackAll l (k + 1) (withAcked [seq] s)).1,
       (ackAll l (k + 1) (withAcked [seq] s)).2) := by
  simp only [ackAll, ackOne_eq seq h, decide_eq_true_eq]

theorem ackAll_state {s : State} (l : List Byte) (k : Nat) (h : (s.delivery.inFlight.map (·.sequence)).Nodup) :
    (ackAll l k s).2 = withAcked l s := by
  induction l generalizing k s with
  | nil => exact (withAcked_of_unlisted_eq (unlisted_nil _)).symm
  | cons seq l ih =>
    rw [ackAll_cons seq l k h, ih (k + 1) (nodup_sequences_unlisted [seq] h), withAcked_withAcked_singleton]

/-! ### The found-mask -/

/-- R83: the place `j` of a list finds a record: its number is in flight and was not listed before. -/
def Finds (l : List Byte) (fs : List FlightRecord) (j : Nat) : Prop :=
  ∃ seq, l[j]? = some seq ∧ seq ∈ fs.map (·.sequence) ∧ seq ∉ l.take j

theorem not_finds_nil (fs : List FlightRecord) (j : Nat) : ¬Finds [] fs j := by simp [Finds]

theorem finds_cons_zero {seq : Byte} {l : List Byte} {fs : List FlightRecord} :
    Finds (seq :: l) fs 0 ↔ seq ∈ fs.map (·.sequence) := by
  simp [Finds]

/-- R83: the places behind the first search what the first has left. -/
theorem finds_cons_succ {seq : Byte} {l : List Byte} {fs : List FlightRecord} {j : Nat} :
    Finds (seq :: l) fs (j + 1) ↔ Finds l (unlisted [seq] fs) j := by
  simp only [Finds, List.getElem?_cons_succ, List.take_succ_cons, List.mem_cons, not_or, mem_sequences_unlisted,
    List.not_mem_nil, not_false_eq_true, and_true, and_assoc]

/-- R83: the bit that a place of the list has in the mask; the model shifts a natural number. -/
theorem getLsbD_placeBit {k : Nat} (h : k < 8) (i : Nat) : ((1 <<< k : Nat) : Byte).getLsbD i = decide (i = k) := by
  rw [BitVec.natCast_eq_ofNat, BitVec.getLsbD_ofNat, Nat.one_shiftLeft, Nat.testBit_two_pow, Bool.eq_iff_iff]
  simp only [Bool.and_eq_true, decide_eq_true_eq]; omega

/-- R83: the bits of the mask, for the numbers from the list position `k` on. -/
theorem ackAll_mask {s : State} (l : List Byte) (k : Nat) (h : (s.delivery.inFlight.map (·.sequence)).Nodup)
    (hk : k + l.length ≤ 8) (i : Nat) :
    (ackAll l k s).1.getLsbD i = true ↔ k ≤ i ∧ Finds l s.delivery.inFlight (i - k) := by
  induction l generalizing k s with
  | nil => simp [ackAll, not_finds_nil]
  | cons seq l ih =>
    rw [List.length_cons] at hk
    have hrest : (ackAll l (k + 1) (withAcked [seq] s)).1.getLsbD i = true ↔
        k + 1 ≤ i ∧ Finds l (unlisted [seq] s.delivery.inFlight) (i - (k + 1)) :=
      ih (k + 1) (nodup_sequences_unlisted [seq] h) (by omega)
    have hbit := getLsbD_placeBit (show k < 8 by omega) i
    have hcons : (ackAll (seq :: l) k s).1.getLsbD i = true ↔
        (k + 1 ≤ i ∧ Finds l (unlisted [seq] s.delivery.inFlight) (i - (k + 1))) ∨
          (i = k ∧ seq ∈ s.delivery.inFlight.map (·.sequence)) := by
      rw [ackAll_cons seq l k h, ← hrest]
      split
      case isTrue hseq => simp only [BitVec.getLsbD_or, hbit, hseq, Bool.or_eq_true, decide_eq_true_eq, and_true]
      case isFalse hseq => simp [hseq]
    rw [hcons]
    rcases lt_trichotomy i k with hlt | rfl | hgt
    · omega
    · simp [finds_cons_zero]
    · obtain ⟨j, rfl⟩ := Nat.exists_eq_add_of_lt hgt
      have hplace : k + j + 1 - k = j + 1 := by omega
      have hbehind : k + j + 1 - (k + 1) = j := by omega
      rw [hplace, hbehind, finds_cons_succ, or_iff_left (fun hi => hgt.ne' hi.1)]
      exact and_congr_left' (by omega)

/-! ### The request -/

theorem length_ackList_le (r : Request) : (ackList r).length ≤ 6 := by simp [ackList]

theorem runAckNotice_outOfRange {r : Request} (s : State) (h : (r.arg 0).toNat = 0 ∨ 6 < (r.arg 0).toNat) :
    runAckNotice r s = (s, outOfRange) := if_pos h

theorem runAckNotice_inRange {r : Request} {s : State} (hpos : 1 ≤ (r.arg 0).toNat) (hle : (r.arg 0).toNat ≤ 6)
    (h : (s.delivery.inFlight.map (·.sequence)).Nodup) : runAckNotice r s = (withAcked (ackList r) s,
      ⟨.ok, [(ackAll (ackList r) 0 s).1, countByte (unlisted (ackList r) s.delivery.inFlight).length]⟩) := by
  rw [runAckNotice, if_neg (by omega)]
  simp only [ackAll_state _ 0 h]; rfl

theorem exec_ackNotice {s : State} {r : Request} (h : Ready s r 0x42) : exec .ackNotice s =
    .next (respond r (runAckNotice r (dequeued r s)).2 (runAckNotice r (dequeued r s)).1) :=
  congrArg Host.Outcome.next (takeIf_ready h (names .ackNotice) runAckNotice rfl)

/-- R160 to R163: the taking of the request and the acknowledgement touch different parts of the state. -/
theorem respond_withAcked (r : Request) (a : Answer) (l : List Byte) (s : State) :
    respond r a (withAcked l (dequeued r s)) =
      { answered s r (resultCode a.result) a.data with
        delivery := (withAcked l s).delivery, notice := (withAcked l s).notice } := by
  rw [← respond_dequeued]; rfl

/-- Settles O52: one number acknowledges at most one record, which the places behind it no longer find, so that the
list acts as a whole on the records it holds. -/
theorem acknowledgedNoticesLeaveTheFlightList : Obligations.AcknowledgedNoticesLeaveTheFlightList := by
  refine fun s r hr hnodup => ⟨fun hpos hle => ⟨(ackAll (ackList r) 0 (dequeued r s)).1, fun k => ?mask, ?next⟩,
    fun hrange => ?refused⟩
  case mask =>
    have hlen := length_ackList_le r
    have hmask := ackAll_mask (s := dequeued r s) (ackList r) 0 hnodup (by omega) k
    exact hmask.trans (and_iff_right (Nat.zero_le k))
  case next =>
    rw [exec_ackNotice hr, runAckNotice_inRange (s := dequeued r s) hpos hle hnodup, respond_withAcked]; rfl
  case refused =>
    rw [exec_ackNotice hr, runAckNotice_outOfRange _ hrange, respond_dequeued]; rfl

end Sys2Proof.Machine

/-! PROOFS. Cycle timing: what a SET-CYCLE sets, and what it answers (chapter 6.6, R111). -/

namespace Sys2Proof.Machine

/-! ### The mode byte -/

/-- R111: the cycle state that a mode byte in range asks for: FOLLOW or ORIGINATE. -/
def requestedMode (b : Byte) : CycleState := if b = 0 then .following else .originating

theorem modeOf_of_le_one {b : Byte} (h : b.toNat ≤ 1) : modeOf b = some (requestedMode b) := by
  rcases Nat.le_one_iff_eq_zero_or_eq_one.1 h with h0 | h1
  · rw [show b = 0 from BitVec.eq_of_toNat_eq h0]; rfl
  · rw [show b = 1 from BitVec.eq_of_toNat_eq h1]; rfl

theorem modeOf_eq_none {b : Byte} (h : 1 < b.toNat) : modeOf b = none := by
  unfold modeOf
  split
  · omega
  · omega
  · rfl

/-- R111: the code of the mode, as the answer carries it. -/
theorem cycleStateCode_requestedMode (b : Byte) :
    (cycleStateCode (requestedMode b)).setWidth 8 = if b = 0 then (0 : Byte) else 2 := by
  unfold requestedMode
  split <;> rfl

/-! ### The operation, outcome by outcome -/

/-- R111: the range test on the mode, the period and the watch limit of a SET-CYCLE. -/
def SetCycleInRange (r : Request) : Prop :=
  (r.arg 0).toNat ≤ 1 ∧ (r.arg 2 ++ r.arg 3).toNat ≠ 0 ∧ (r.arg 4).toNat ≤ 15

/-- R111: cycle timing as the arguments of a SET-CYCLE in range set it. -/
def requestedCycle (r : Request) : CycleTiming → CycleTiming :=
  configured (requestedMode (r.arg 0)) (r.arg 1).toNat (r.arg16 2).toNat (r.arg 4).toNat

theorem runSetCycle_inRange {r : Request} (s : State) (h : SetCycleInRange r) :
    runSetCycle r s = (s.onCycle (requestedCycle r), ⟨.ok, [if r.arg 0 = 0 then 0 else 2, highByte s.cycle.count,
      lowByte s.cycle.count, countByte s.cycle.missed]⟩) := by
  obtain ⟨hmode, hperiod, hlimit⟩ := h
  have htest : ¬((r.arg16 2).toNat = 0 ∨ 15 < (r.arg 4).toNat) := not_or.2 ⟨hperiod, Nat.not_lt.2 hlimit⟩
  simp only [runSetCycle, modeOf_of_le_one hmode, if_neg htest, cycleStateCode_requestedMode]
  rfl

theorem runSetCycle_outOfRange {r : Request} (s : State) (h : ¬SetCycleInRange r) :
    runSetCycle r s = (s, outOfRange) := by
  by_cases hmode : (r.arg 0).toNat ≤ 1
  · have htest : (r.arg16 2).toNat = 0 ∨ 15 < (r.arg 4).toNat := by
      rw [or_iff_not_and_not, Nat.not_lt]
      exact fun hin => h ⟨hmode, hin⟩
    simp only [runSetCycle, modeOf_of_le_one hmode, if_pos htest]
  · simp only [runSetCycle, modeOf_eq_none (Nat.not_le.1 hmode)]

/-! ### The request -/

theorem exec_setCycle {s : State} {r : Request} (h : Ready s r 0x10) : exec .setCycle s =
    .next (respond r (runSetCycle r (dequeued r s)).2 (runSetCycle r (dequeued r s)).1) :=
  congrArg Host.Outcome.next (takeIf_ready h (names .setCycle) runSetCycle rfl)

/-- R160 to R163: the taking of the request and the change of cycle timing touch different parts of the state. -/
theorem respond_onCycle (r : Request) (a : Answer) (f : CycleTiming → CycleTiming) (s : State) :
    respond r a ((dequeued r s).onCycle f) =
      { answered s r (resultCode a.result) a.data with cycle := f s.cycle } := by
  rw [← respond_dequeued]; rfl

/-- Settles O40: the range test selects one outcome, and neither the count nor the mark is among the fields set. -/
theorem setCycleConfiguresCycleTiming : Obligations.SetCycleConfiguresCycleTiming := by
  refine fun s r hr => ⟨fun hok => ?accepted, fun hbad => ?refused⟩
  case accepted =>
    rw [exec_setCycle hr, runSetCycle_inRange _ hok, respond_onCycle]; rfl
  case refused =>
    rw [exec_setCycle hr, runSetCycle_outOfRange _ hbad, respond_dequeued]; rfl

end Sys2Proof.Machine

/-! PROOFS. Validation: the first error that a bank's three checked tables hold (chapter 8, R146). -/

namespace Sys2Proof.Machine

/-! ### A first element -/

section FirstWhere

variable {α : Type} {P Q : α → Prop} {before : α → α → Prop} {a b : Option α}

/-- What a search that stops at the first find gives: `none` where nothing satisfies `P`, else an element that
satisfies `P` and has none before it. -/
def FirstWhere (P : α → Prop) (before : α → α → Prop) : Option α → Prop
  | none => ∀ x, ¬P x
  | some x => P x ∧ ∀ y, P y → ¬before y x

theorem FirstWhere.congr (h : FirstWhere P before a) (hpq : ∀ x, P x ↔ Q x) : FirstWhere Q before a :=
  (funext fun x => propext (hpq x) : P = Q) ▸ h

/-- Two searches in turn, of which nothing that the second finds comes before anything the first finds. -/
theorem FirstWhere.or (ha : FirstWhere P before a) (hb : FirstWhere Q before b)
    (hpq : ∀ x y, P x → Q y → ¬before y x) : FirstWhere (fun x => P x ∨ Q x) before (a.or b) := by
  cases a with
  | none => exact hb.congr fun x => (or_iff_right (ha x)).symm
  | some x => exact ⟨.inl ha.1, fun y hy => hy.elim (ha.2 y) (hpq x y ha.1)⟩

theorem FirstWhere.eq_none_iff (h : FirstWhere P before a) : a = none ↔ ∀ x, ¬P x := by
  cases a with
  | none => exact iff_of_true rfl h
  | some x => exact iff_of_false (Option.some_ne_none x) fun hn => hn x h.1

/-- Where of two different elements one comes before the other, only one is first. -/
theorem FirstWhere.eq_some_iff (h : FirstWhere P before a)
    (htotal : ∀ x y, ¬before x y → ¬before y x → x = y) (x : α) :
    a = some x ↔ P x ∧ ∀ y, P y → ¬before y x := by
  constructor
  · rintro rfl; exact h
  · rintro ⟨hx, hfirst⟩
    cases a with
    | none => exact absurd hx (h x)
    | some z => rw [htotal z x (hfirst z h.1) (h.2 x hx)]

end FirstWhere

/-! ### The first rule an entry breaks -/

/-- R146: the order of the seven rules. -/
abbrev RuleBefore (x y : Reason) : Prop := (reasonCode x).toNat < (reasonCode y).toNat

/-- A test of one rule, and a search of later rules. -/
theorem FirstWhere.orRule {P : Reason → Prop} {a : Option Reason} {x : Reason} {c : Prop} [Decidable c]
    (h : FirstWhere P RuleBefore a) (hlater : ∀ y, P y → RuleBefore x y) :
    FirstWhere (fun y => (y = x ∧ c) ∨ P y) RuleBefore (if c then some x else a) := by
  split
  case isTrue hc =>
    refine ⟨.inl ⟨rfl, hc⟩, ?_⟩
    rintro y (⟨rfl, -⟩ | hy)
    · exact lt_irrefl _
    · exact (hlater y hy).asymm
  case isFalse hc => exact h.congr fun y => (or_iff_right fun e => hc e.2).symm

/-- A test of the last rule. -/
theorem firstWhere_lastRule (x : Reason) (c : Prop) [Decidable c] :
    FirstWhere (fun y => y = x ∧ c) RuleBefore (if c then some x else none) :=
  (FirstWhere.orRule (P := fun _ => False) (fun _ => id) fun _ => False.elim).congr fun _ => or_iff_left id

/-- R146, rules 1 and 2. -/
def TapBreaks (station : Byte) (e : TapEntry) (reason : Reason) : Prop :=
  e.enabled = true ∧
    ((reason = .ownStation ∧ e.station = station) ∨
      (reason = .staleLimit ∧ e.stale ≠ 0 ∧ e.stale ≤ e.spacing))

/-- R146, rules 3 to 5. -/
def BindBreaks (taps : Tab 192 TapEntry) (e : BindEntry) (reason : Reason) : Prop :=
  (reason = .sourceDisabled ∧ ∃ t ∈ e.sources, (taps.get t).enabled = false) ∨
    (reason = .duplicateSource ∧ ¬e.sources.Nodup) ∨
    (reason = .sourceCount ∧ e.sources ≠ [] ∧
      ((e.fn = .follow ∧ e.sources.length ≠ 1) ∨ (e.fn = .vote ∧ e.sources.length ≠ 3) ∨ 3 < e.sources.length))

/-- R146, rules 6 and 7. -/
def WatchBreaks (taps : Tab 192 TapEntry) (e : WatchEntry) (reason : Reason) : Prop :=
  (reason = .subjectDisabled ∧ e.enabled = true ∧ ∃ t, e.subject = .tap t ∧ (taps.get t).enabled = false) ∨
    (reason = .levelHoldoff ∧ (e.trigger = .high ∨ e.trigger = .low) ∧ e.holdoff = 0)

/-- R146, rule 5: an unbound point fits every function. -/
theorem countFits_eq_false (e : BindEntry) : countFits e.fn e.sources.length = false ↔ e.sources ≠ [] ∧
    ((e.fn = .follow ∧ e.sources.length ≠ 1) ∨ (e.fn = .vote ∧ e.sources.length ≠ 3) ∨ 3 < e.sources.length) := by
  rw [← List.length_pos_iff]
  generalize e.sources.length = k
  cases e.fn <;> simp [countFits] <;> omega

theorem subjectDisabled_iff (taps : Tab 192 TapEntry) (e : WatchEntry) : subjectDisabled taps e = true ↔
    e.enabled = true ∧ ∃ t, e.subject = .tap t ∧ (taps.get t).enabled = false := by
  cases h : e.subject <;> simp [subjectDisabled, h]

theorem isLevel_iff (tr : Trigger) : isLevel tr = true ↔ tr = .high ∨ tr = .low := by
  cases tr <;> simp [isLevel]

theorem tapFault_first (station : Byte) (e : TapEntry) :
    FirstWhere (TapBreaks station e) RuleBefore (tapFault station e) := by
  unfold tapFault
  refine .congr (.orRule (firstWhere_lastRule ..) ?afterOwn) fun reason => ?rules
  case afterOwn => rintro y ⟨rfl, -⟩; decide
  case rules => simp [TapBreaks]; tauto

theorem bindFault_first (taps : Tab 192 TapEntry) (e : BindEntry) :
    FirstWhere (BindBreaks taps e) RuleBefore (bindFault taps e) := by
  unfold bindFault
  refine .congr (.orRule (.orRule (firstWhere_lastRule ..) ?afterRepeat) ?afterDisabled) fun reason => ?rules
  case afterRepeat => rintro y ⟨rfl, -⟩; decide
  case afterDisabled => rintro y (⟨rfl, -⟩ | ⟨rfl, -⟩) <;> decide
  case rules => simp [BindBreaks, countFits_eq_false]

theorem watchFault_first (taps : Tab 192 TapEntry) (e : WatchEntry) :
    FirstWhere (WatchBreaks taps e) RuleBefore (watchFault taps e) := by
  unfold watchFault
  refine .congr (.orRule (firstWhere_lastRule ..) ?afterSubject) fun reason => ?rules
  case afterSubject => rintro y ⟨rfl, -⟩; decide
  case rules => simp [WatchBreaks, subjectDisabled_iff, isLevel_iff]

/-! ### The first error of a table -/

section Table

variable {table : TableName} {n : Nat} {fault : Fin n → Option Reason}

theorem firstFault_eq_none : firstFault table n fault = none ↔ ∀ i, fault i = none := by
  simp [firstFault]

/-- The indices ascend, so that every index below the one found was tried. -/
theorem firstFault_eq_some {x : FirstError} (h : firstFault table n fault = some x) :
    ∃ i r, x = ⟨table, i.val, r⟩ ∧ fault i = some r ∧ ∀ j < i, fault j = none := by
  obtain ⟨pre, i, post, hsplit, hi, hpre⟩ := List.findSome?_eq_some_iff.1 h
  obtain ⟨r, hr, rfl⟩ := Option.map_eq_some_iff.1 hi
  refine ⟨i, r, rfl, hr, fun j hj => ?_⟩
  have hpost : ∀ k ∈ post, i < k := by
    have hsorted := indices_sorted n
    rw [hsplit, List.pairwise_append] at hsorted
    exact (List.pairwise_cons.1 hsorted.2.1).1
  have hmem : j ∈ pre ++ i :: post := hsplit ▸ mem_indices j
  rcases List.mem_append.1 hmem with hj' | hj'
  · exact Option.map_eq_none_iff.1 (hpre j hj')
  · rcases List.mem_cons.1 hj' with rfl | hj'
    · exact absurd hj (lt_irrefl _)
    · exact absurd hj (hpost j hj').asymm

/-- R146: an error of one table, whose entry `i` breaks the rules `breaks i`. -/
def ErrorOf (table : TableName) (breaks : Fin n → Reason → Prop) (x : FirstError) : Prop :=
  x.table = table ∧ ∃ i : Fin n, i.val = x.index ∧ breaks i x.reason

/-- R146: the first rule of each entry gives the first error of the table. -/
theorem firstFault_first {breaks : Fin n → Reason → Prop} (h : ∀ i, FirstWhere (breaks i) RuleBefore (fault i)) :
    FirstWhere (ErrorOf table breaks) FoundBefore (firstFault table n fault) := by
  cases hfound : firstFault table n fault with
  | none =>
    rintro x ⟨-, i, -, hi⟩
    exact (h i).eq_none_iff.1 (firstFault_eq_none.1 hfound i) _ hi
  | some x =>
    obtain ⟨i, r, rfl, hr, hbelow⟩ := firstFault_eq_some hfound
    have hi : FirstWhere (breaks i) RuleBefore (some r) := hr ▸ h i
    refine ⟨⟨rfl, i, rfl, hi.1⟩, ?_⟩
    rintro y ⟨htable, j, hj, hy⟩ (hbefore | ⟨-, hindex | ⟨hindex, hrule⟩⟩)
    · exact absurd (htable ▸ hbefore) (lt_irrefl _)
    · have hji : j < i := by rw [Fin.lt_def, hj]; exact hindex
      exact (h j).eq_none_iff.1 (hbelow j hji) _ hy
    · obtain rfl : j = i := Fin.ext (hj.trans hindex)
      exact hi.2 _ hy hrule

end Table

/-! ### The first error of a bank -/

theorem tableCode_injective : Function.Injective tableCode := by
  intro x y; cases x <;> cases y <;> decide

theorem reasonCode_injective : Function.Injective reasonCode := by
  intro x y; cases x <;> cases y <;> decide

/-- R146: the order of validation is total. -/
theorem eq_of_not_foundBefore (x y : FirstError) (hxy : ¬FoundBefore x y) (hyx : ¬FoundBefore y x) : x = y := by
  obtain ⟨xt, xi, xr⟩ := x
  obtain ⟨yt, yi, yr⟩ := y
  simp only [FoundBefore, not_or, not_and] at hxy hyx
  have htable : xt = yt := tableCode_injective (BitVec.eq_of_toNat_eq (by omega))
  have hxy' := hxy.2 htable
  have hyx' := hyx.2 htable.symm
  have hindex : xi = yi := by omega
  have hreason : xr = yr := reasonCode_injective (BitVec.eq_of_toNat_eq (by omega))
  rw [htable, hindex, hreason]

/-- An error of a later table is not found before one of an earlier table. -/
theorem not_foundBefore_of_tableCode_lt {x y : FirstError}
    (h : (tableCode x.table).toNat < (tableCode y.table).toNat) : ¬FoundBefore y x := by
  rintro (hlt | ⟨heq, -⟩)
  · exact hlt.asymm h
  · exact h.ne (by rw [heq])

/-- R146: a broken rule is an error of one of the three tables that have rules. -/
theorem ruleBroken_iff (station : Byte) (b : Bank) (x : FirstError) : RuleBroken station b x.table x.index x.reason ↔
    ErrorOf .tap (fun t => TapBreaks station (b.taps.get t)) x ∨
      ErrorOf .bind (fun p => BindBreaks b.taps (b.binds.get p)) x ∨
      ErrorOf .watch (fun w => WatchBreaks b.taps (b.watches.get w)) x :=
  Iff.rfl

theorem validate_first (station : Byte) (b : Bank) :
    FirstWhere (fun x => RuleBroken station b x.table x.index x.reason) FoundBefore (validate station b) := by
  have htaps := firstFault_first (table := .tap) fun t => tapFault_first station (b.taps.get t)
  have hbinds := firstFault_first (table := .bind) fun p => bindFault_first b.taps (b.binds.get p)
  have hwatches := firstFault_first (table := .watch) fun w => watchFault_first b.taps (b.watches.get w)
  refine (htaps.or (hbinds.or hwatches ?bindsFirst) ?tapsFirst).congr fun x => (ruleBroken_iff station b x).symm
  case bindsFirst =>
    rintro x y ⟨hx, -⟩ ⟨hy, -⟩
    exact not_foundBefore_of_tableCode_lt (by rw [hx, hy]; decide)
  case tapsFirst =>
    rintro x y ⟨hx, -⟩ (⟨hy, -⟩ | ⟨hy, -⟩) <;>
      exact not_foundBefore_of_tableCode_lt (by rw [hx, hy]; decide)

/-- Settles O37: validation is a search through rules, entries and tables in turn, each in its order. -/
theorem validationReportsTheFirstBrokenRule : Obligations.ValidationReportsTheFirstBrokenRule := by
  refine fun station b => ⟨?noError, (validate_first station b).eq_some_iff eq_of_not_foundBefore⟩
  case noError =>
    exact (validate_first station b).eq_none_iff.trans
      ⟨fun h t i r => h ⟨t, i, r⟩, fun h x => h x.table x.index x.reason⟩

end Sys2Proof.Machine

/-! PROOFS. The session requests ABORT-EDIT and READ-BANK-STATUS (chapter 8, R152, R154). -/

namespace Sys2Proof.Machine

/-! ### The bank unit as a taken request finds it -/

/-- R138: what the taking of a request leaves of the bank unit is what its answer shows. -/
theorem dequeued_bank (r : Request) (s : State) (code : Byte) (data : List Byte) :
    (dequeued r s).bank = (answered s r code data).bank :=
  reloadLease_eq r.originator s.bank

/-- R176: the bank state as a byte, its upper six bits 0. -/
theorem bankStateByte_eq (b : BankUnit) : bankStateByte b = (0 : BitVec 6) ++ bankStateCode b.state := by
  unfold bankStateByte
  cases b.state <;> rfl

/-- R152: a session that ends does not show whether the lease was reloaded. -/
theorem endSession_reloadLease (outcome : SessionOutcome) (o : Originator) (b : BankUnit) :
    endSession outcome (reloadLease o b) = endSession outcome b := by
  rw [reloadLease_eq]; rfl

/-! ### ABORT-EDIT -/

theorem exec_abortEdit {s : State} {r : Request} (h : Ready s r 0x28) : exec .abortEdit s =
    .next (respond r (runAbortEdit r (dequeued r s)).2 (runAbortEdit r (dequeued r s)).1) :=
  congrArg Host.Outcome.next (takeIf_ready h (names .abortEdit) runAbortEdit rfl)

theorem runAbortEdit_owner {r : Request} {s : State} (hs : s.bank.state ≠ .idle)
    (ho : s.bank.owner = some r.originator) :
    runAbortEdit r s = (s.onBank (endSession .aborted), ⟨.ok, [bankStateByte s.bank]⟩) := by
  rw [runAbortEdit, if_neg hs, if_pos ho]

/-- R160 to R163: the taking of the request and the end of the session touch different parts of the state, but for
the lease. -/
theorem respond_endSession (r : Request) (a : Answer) (outcome : SessionOutcome) (s : State) :
    respond r a ((dequeued r s).onBank (endSession outcome)) =
      { answered s r (resultCode a.result) a.data with bank := endSession outcome s.bank } := by
  rw [← respond_dequeued, ← endSession_reloadLease outcome r.originator s.bank]; rfl

theorem exec_abortEdit_owner {s : State} {r : Request} (hr : Ready s r 0x28) (hs : s.bank.state ≠ .idle)
    (ho : s.bank.owner = some r.originator) : exec .abortEdit s =
      .next { answered s r 0 [(0 : BitVec 6) ++ bankStateCode s.bank.state] with
        bank := endSession .aborted s.bank } := by
  have hbank := dequeued_bank r s 0 []
  rw [exec_abortEdit hr, runAbortEdit_owner (by rw [hbank]; exact hs) (by rw [hbank]; exact ho), respond_endSession,
    bankStateByte_eq, hbank]
  rfl

/-! ### READ-BANK-STATUS -/

theorem exec_readBankStatus {s : State} {r : Request} (h : Ready s r 0x29) : exec .readBankStatus s =
    .next (respond r (runReadBankStatus r (dequeued r s)).2 (runReadBankStatus r (dequeued r s)).1) :=
  congrArg Host.Outcome.next (takeIf_ready h (names .readBankStatus) runReadBankStatus rfl)

section Views

variable {r : Request} {s : State}

theorem runReadBankStatus_session (s : State) (h : r.arg 0 = 0) :
    runReadBankStatus r s = (s, ⟨.ok, sessionView s.bank⟩) := by
  simp only [runReadBankStatus, h]; rfl

theorem runReadBankStatus_outcome (s : State) (h : r.arg 0 = 1) :
    runReadBankStatus r s = (s, ⟨.ok, outcomeView s.bank⟩) := by
  simp only [runReadBankStatus, h]; rfl

theorem runReadBankStatus_outOfRange (s : State) (h : 2 ≤ (r.arg 0).toNat) :
    runReadBankStatus r s = (s, outOfRange) := by
  unfold runReadBankStatus
  split
  · omega
  · omega
  · rfl

/-- R154: the SESSION view shows the bank unit that the taking of the request leaves. -/
theorem exec_readBankStatus_session (hr : Ready s r 0x29) (h : r.arg 0 = 0) :
    exec .readBankStatus s = .next (answered s r 0 (sessionView (answered s r 0 []).bank)) := by
  rw [exec_readBankStatus hr, runReadBankStatus_session _ h, respond_dequeued, dequeued_bank r s 0 []]; rfl

/-- R154: the OUTCOME view shows nothing that the taking of the request changes. -/
theorem exec_readBankStatus_outcome (hr : Ready s r 0x29) (h : r.arg 0 = 1) :
    exec .readBankStatus s = .next (answered s r 0 (outcomeView s.bank)) := by
  rw [exec_readBankStatus hr, runReadBankStatus_outcome _ h, respond_dequeued, dequeued_bank r s 0 []]; rfl

theorem exec_readBankStatus_outOfRange (hr : Ready s r 0x29) (h : 2 ≤ (r.arg 0).toNat) :
    exec .readBankStatus s = .next (answered s r 4 []) := by
  rw [exec_readBankStatus hr, runReadBankStatus_outOfRange _ h, respond_dequeued]; rfl

end Views

/-- Settles O47: the owner ends the session it holds; the view byte selects what a status read answers. -/
theorem sessionsAreAbortedAndShown : Obligations.SessionsAreAbortedAndShown := by
  refine fun s r => ⟨exec_abortEdit_owner, fun hr => ⟨fun hview => ?session, fun hview => ?outcome, ?other⟩⟩
  case session =>
    rw [exec_readBankStatus_session hr hview]
    unfold sessionView
    cases htarget : s.bank.target <;> simp only [answered, htarget] <;> rfl
  case outcome =>
    rw [exec_readBankStatus_outcome hr hview]
    unfold outcomeView
    cases s.bank.firstError <;> rfl
  case other => exact exec_readBankStatus_outOfRange hr

end Sys2Proof.Machine

/-! PROOFS. The engine's reads: UNKNOWN-OP, ECHO, READ-STATUS and READ-COUNTER (chapter 9, R161, R164 to R166,
R177). -/

namespace Sys2Proof.Machine

/-! ### The operation codes -/

theorem code_of_ofCode {b : Byte} {o : Operation} (h : Operation.ofCode b = some o) : o.code = b := by
  unfold Operation.ofCode at h
  split at h <;> cases h <;> exact BitVec.eq_of_toNat_eq (Eq.symm ‹_›)

/-- R161: a code that is no operation's code is one the part does not recognise. -/
theorem ofCode_eq_none {b : Byte} (h : ∀ o : Operation, o.code ≠ b) : Operation.ofCode b = none :=
  Option.eq_none_iff_forall_ne_some.2 fun o ho => h o (code_of_ofCode ho)

section Reads

variable {r : Request} {s : State}

/-! ### UNKNOWN-OP and ECHO -/

theorem exec_unknownOp {op : Byte} (hop : ∀ o : Operation, o.code ≠ op) (hr : Ready s r op) :
    exec .unknownOp s = .next (answered s r 9 []) := by
  have htaken := takeIf_ready hr (fun b => (Operation.ofCode b).isNone) (fun _ t => (t, refusal .unknownOp))
    (by rw [ofCode_eq_none hop]; rfl)
  rw [respond_dequeued] at htaken
  exact congrArg Host.Outcome.next htaken

theorem exec_echo (hr : Ready s r 0x01) : exec .echo s = .next
    (answered s r 0 [s.engine.station, r.arg 0, r.arg 1, r.arg 2, r.arg 3, r.arg 4]) := by
  have htaken := takeIf_ready hr (names .echo) runEcho rfl
  rw [runEcho, respond_dequeued] at htaken
  exact congrArg Host.Outcome.next htaken

/-! ### READ-STATUS -/

/-- R165: the pages in the order of their numbers. -/
def statusPages (s : State) : List (List Byte) := [partPage s, eventsPage s, queuesPage s, noticesPage s]

theorem runReadStatus_page {k : Nat} {data : List Byte} (h : (r.arg 0).toNat = k)
    (hpage : (statusPages s)[k]? = some data) : runReadStatus r s = (s, ⟨.ok, data⟩) := by
  rw [runReadStatus, h]
  match k, hpage with
  | 0, rfl | 1, rfl | 2, rfl | 3, rfl => rfl

theorem runReadStatus_outOfRange (s : State) (h : 4 ≤ (r.arg 0).toNat) : runReadStatus r s = (s, outOfRange) := by
  obtain ⟨j, hj⟩ := Nat.exists_eq_add_of_le' h
  rw [runReadStatus, hj]; rfl

theorem exec_readStatus (h : Ready s r 0x02) : exec .readStatus s =
    .next (respond r (runReadStatus r (dequeued r s)).2 (runReadStatus r (dequeued r s)).1) :=
  congrArg Host.Outcome.next (takeIf_ready h (names .readStatus) runReadStatus rfl)

/-- R165: a page shows the state that the taking of the request leaves. -/
theorem exec_readStatus_page {k : Nat} {data : List Byte} (hr : Ready s r 0x02) (h : (r.arg 0).toNat = k)
    (hpage : (statusPages (dequeued r s))[k]? = some data) : exec .readStatus s = .next (answered s r 0 data) := by
  rw [exec_readStatus hr, runReadStatus_page h hpage, respond_dequeued]; rfl

theorem exec_readStatus_outOfRange (hr : Ready s r 0x02) (h : 4 ≤ (r.arg 0).toNat) :
    exec .readStatus s = .next (answered s r 4 []) := by
  rw [exec_readStatus hr, runReadStatus_outOfRange _ h, respond_dequeued]; rfl

/-- R165: the taking of a request leaves the state of the bank unit that the PART page shows. -/
theorem partPage_dequeued (r : Request) (s : State) : partPage (dequeued r s) = partPage s := by
  rw [partPage, dequeued_bank r s 0 []]; rfl

/-- R165: the indicators as two bytes of data: only bit 0 of the high byte can be set. -/
theorem countData_indicatorMask (i : Indicators) :
    countData (indicatorMask i) = [(0 : BitVec 7) ++ i.extractLsb' 8 1, i.extractLsb' 0 8] := by
  have hhigh : highByte (indicatorMask i) = (0 : BitVec 7) ++ i.extractLsb' 8 1 := by
    ext k hk; grind [highByte, indicatorMask]
  have hlow : lowByte (indicatorMask i) = i.extractLsb' 0 8 := by
    ext k hk; grind [lowByte, indicatorMask]
  rw [countData, hhigh, hlow]

theorem queuedOfClass_eq_countP (s : State) (c : ClassNo) :
    queuedOfClass s c = s.notice.queue.countP fun n => n.cls = c :=
  List.countP_eq_length_filter.symm

theorem queuesPage_dequeued (r : Request) (s : State) : queuesPage (dequeued r s) =
    [forwardFill s.trunk, BitVec.ofNat 4 s.trunk.notice.length ++ BitVec.ofNat 4 s.trunk.derived.length,
      (0 : BitVec 1) ++ BitVec.ofNat 3 (s.engine.queue.length - 1) ++ (0 : BitVec 1)
        ++ BitVec.ofNat 3 s.trunk.response.length,
      forwardFill s.field, countByte s.field.derived.length] := by
  rw [← List.length_tail]; rfl

/-! ### READ-COUNTER -/

/-- R131, R177: the counters of a port in the order of their numbers. -/
def portCounters (c : PortCounters) : List Word32 :=
  [c.received, c.checkErrors, c.lateCells, c.misplaced, c.clashes, c.blocked, c.forwardDrops, c.derivedDrops,
    c.discardedDown, c.placeReplaced]

/-- R177: the numbers that name a counter: the trunk port's, the field port's, the other blocks'. -/
def counterNumbers : List Nat :=
  List.range 10 ++ (List.range 10).map (· + 16) ++ [32, 33, 34, 35, 36, 40, 41, 48]

/-- R177: the counters in the order of their numbers. -/
def counters (s : State) : List Word32 :=
  [s.trunk.counters, s.field.counters].flatMap portCounters ++ [s.notice.raised, s.notice.acknowledged, s.notice.lost,
    s.notice.withdrawn, s.notice.absorbedTotal, s.cycle.skewCount, s.cycle.conflictCount, s.engine.requestDrops]

/-- R177: number by number, the model's numbering gives the counters. -/
theorem map_counterValue (s : State) : counterNumbers.map (counterValue s) = (counters s).map some := rfl

theorem counterValue_of_mem {k : Nat} {w : Word32} (h : (k, w) ∈ counterNumbers.zip (counters s)) :
    counterValue s k = some w := by
  have hmap : List.Forall₂ Eq (counterNumbers.map (counterValue s)) ((counters s).map some) := by
    rw [map_counterValue, List.forall₂_eq_eq_eq]
  exact (List.forall₂_iff_zip.1 (List.forall₂_map_right_iff.1 (List.forall₂_map_left_iff.1 hmap))).2 h

theorem portCounter_eq_none {k : Nat} (c : PortCounters) (h : 10 ≤ k) : portCounter c k = none := by
  obtain ⟨j, rfl⟩ := Nat.exists_eq_add_of_le' h
  rfl

theorem blockCounter_eq_none {k : Nat} (s : State) (h : k ∉ [0, 1, 2, 3, 4, 8, 9, 16]) :
    blockCounter s k = none := by
  unfold blockCounter
  split
  case h_9 => rfl
  all_goals exact absurd (by decide) h

theorem counterValue_eq_none {k : Nat} (s : State) (h : k ∉ counterNumbers) : counterValue s k = none := by
  simp only [counterNumbers, List.mem_append, List.mem_range, List.mem_map, not_or] at h
  obtain ⟨⟨htrunk, hfield⟩, hblock⟩ := h
  have hbetween : ¬(16 ≤ k ∧ k < 26) := fun hk => hfield ⟨k - 16, by omega, by omega⟩
  unfold counterValue
  split_ifs with h16 h32
  · exact portCounter_eq_none _ (by omega)
  · exact portCounter_eq_none _ (by omega)
  · refine blockCounter_eq_none s fun hmem => hblock ?_
    simp only [List.mem_cons, List.not_mem_nil, or_false] at hmem ⊢
    omega

theorem exec_readCounter (h : Ready s r 0x03) : exec .readCounter s =
    .next (respond r (runReadCounter r (dequeued r s)).2 (runReadCounter r (dequeued r s)).1) :=
  congrArg Host.Outcome.next (takeIf_ready h (names .readCounter) runReadCounter rfl)

/-- R160, R177: no counter counts the taking of a request. -/
theorem counters_dequeued (r : Request) (s : State) : counters (dequeued r s) = counters s := rfl

theorem exec_readCounter_named {k : Nat} {w : Word32} (hr : Ready s r 0x03) (h : (r.arg 0).toNat = k)
    (hmem : (k, w) ∈ counterNumbers.zip (counters s)) :
    exec .readCounter s = .next (answered s r 0 (r.arg 0 :: counterData w)) := by
  rw [← counters_dequeued r s] at hmem
  rw [exec_readCounter hr, runReadCounter, h, counterValue_of_mem hmem, respond_dequeued]; rfl

theorem exec_readCounter_outOfRange (hr : Ready s r 0x03) (h : (r.arg 0).toNat ∉ counterNumbers) :
    exec .readCounter s = .next (answered s r 4 []) := by
  rw [exec_readCounter hr, runReadCounter, counterValue_eq_none _ h, respond_dequeued]; rfl

end Reads

/-- Settles O38: a read hands on the state it is given, so that what it answers is all that is added to the taking. -/
theorem engineReadsAreAnsweredFromTheState : Obligations.EngineReadsAreAnsweredFromTheState := by
  refine fun s r => ⟨fun op => exec_unknownOp, exec_echo, fun hr => ⟨fun hpage => ?part, fun hpage => ?events,
    fun hpage => ?queues, fun hpage => ?notices, exec_readStatus_outOfRange hr⟩, fun hr =>
    ⟨fun k w hmem hnumber => exec_readCounter_named hr hnumber hmem, exec_readCounter_outOfRange hr⟩⟩
  case part => exact exec_readStatus_page hr hpage (congrArg some (partPage_dequeued r s))
  case events =>
    refine exec_readStatus_page hr hpage (congrArg some ?_)
    simp only [eventsPage, countData_indicatorMask, beq_eq_decide]; rfl
  case queues => exact exec_readStatus_page hr hpage (congrArg some (queuesPage_dequeued r s))
  case notices =>
    refine exec_readStatus_page hr hpage (congrArg some ?_)
    simp only [noticesPage, queuedOfClass_eq_countP]; rfl

end Sys2Proof.Machine

/-! PROOFS. What a command can do: one inversion of `exec` over its fifty-four arms, from which every statement about
any command at all is read off (chapter 0, Block overview). -/

namespace Sys2Proof.Machine

/-! ### The run of a request -/

/-- What the run of a taken request makes of the state, its answer aside. -/
inductive Ran (r : Request) (s : State) : State → Prop
  | read : Ran r s s
  | cleared (i : Indicators) : Ran r s { s with engine := { s.engine with indicators := i } }
  | resetPending (scope : Scope) (stage : ResponseStage) :
      Ran r s (s.onEngineState fun _ => .resetPending scope stage)
  | configured (mode : CycleState) (d t w : Nat) : Ran r s (s.onCycle (configured mode d t w))
  | opened (hidle : s.bank.state = .idle) (hlease : (r.arg 0).toNat ≠ 0) :
      Ran r s (s.onBank (openSession r.originator (r.arg 0).toNat))
  | renewed (hedit : s.bank.state = .editing) (hlease : (r.arg 0).toNat ≠ 0) :
      Ran r s (s.onBank fun b => { b with lease := (r.arg 0).toNat, leaseRemaining := (r.arg 0).toNat })
  | written (put : Bank → Bank) (hedit : s.bank.state = .editing)
      (htaps : ∀ b, BankTapsOk b → BankTapsOk (put b)) : Ran r s (writeShadow put s)
  | committed (target : Target) (hedit : s.bank.state = .editing) (htarget : target ≠ .none) :
      Ran r s (s.onBank (beginValidation target))
  | aborted : Ran r s (s.onBank (endSession .aborted))
  | forced (p : PointNo) (f : Option ForceRecord)
      (hroom : f.isSome = true → (s.xc.forces.get p).isSome = true ∨ forceCount s < 16)
      (hlasts : ∀ x d, f = some x → x.remaining = some d → 1 ≤ d) : Ran r s (setForce p f s)
  | gated (g : Tab 4 Bool) : Ran r s { s with notice := { s.notice with gates := g } }
  | acknowledged (l : List Byte) : Ran r s (ackAll l 0 s).2
  | deliverySet (b i a : Nat) :
      Ran r s { s with delivery := { s.delivery with budget := b, retryInterval := i, attempts := a } }

section Runs

variable (r : Request) (s : State)

theorem Ran.of_eq {t : State} (h : t = s) : Ran r s t := h ▸ .read

theorem ran_clearIndicators : Ran r s (runClearIndicators r s).1 := by
  unfold runClearIndicators; split
  · exact .cleared _
  · exact .read

theorem ran_resetPart : Ran r s (runResetPart r s).1 := by
  unfold runResetPart; split
  · exact .read
  · exact .resetPending ..

theorem ran_setCycle : Ran r s (runSetCycle r s).1 := by
  unfold runSetCycle; split
  · exact .read
  · split
    · exact .read
    · exact .configured ..

theorem ran_openEdit : Ran r s (runOpenEdit r s).1 := by
  unfold runOpenEdit
  dsimp only
  split
  · next hidle =>
    split
    · exact .read
    · next hlease => exact .opened hidle hlease
  · next hedit =>
    split
    · split
      · exact .read
      · next hlease => exact .renewed hedit hlease
    · exact .read
  · exact .read
  · exact .read

/-- R136: a write that is not refused finds the session in EDITING. -/
theorem sessionTest_eq_none {o : Originator} {b : BankUnit} (h : sessionTest o b = none) :
    b.state = .editing ∧ b.owner = some o := by
  unfold sessionTest at h
  split at h
  · cases h
  · cases h
  · cases h
  · next hedit =>
    split at h
    · next howner => exact ⟨hedit, howner⟩
    · cases h

theorem ran_write {ι ε : Type} (table : TableName) (args : WriteArgs ι ε) (index count : ι → Nat)
    (put : ι → ε → Bank → Bank) (o : Originator)
    (htaps : ∀ i e, args = .entry i e → ∀ b, BankTapsOk b → BankTapsOk (put i e b)) :
    Ran r s (runWrite table args index count put o s).1 := by
  unfold runWrite
  split
  · exact .read
  · exact .read
  · exact .read
  · next htest => exact .written _ (sessionTest_eq_none htest).1 (htaps _ _ rfl)

/-- R141: the arguments of a WRITE-TAP that pass the range tests make an entry in range. -/
theorem tapEntryOk_of_writeTapArgs {r : Request} {t : TapNo} {e : TapEntry} (h : writeTapArgs r = .entry t e) :
    TapEntryOk e := by
  have hstale := (r.arg 6).isLt
  have hq := ((r.arg 3).extractLsb' 0 4).isLt
  unfold writeTapArgs at h
  split at h
  case isFalse => cases h
  case isTrue =>
    generalize (if (r.arg 1).getLsbD 1 then Port.trunk else .field) = side at h
    split_ifs at h with h1 h2 h3 h4 h5
    cases h
    have hq0 : ((r.arg 3).extractLsb' 0 4).toNat ≠ 0 := fun h0 => h3 (by
      rw [beq_iff_eq]; exact BitVec.eq_of_toNat_eq h0)
    simp only [Bool.or_eq_true, beq_iff_eq, decide_eq_true_eq] at h5
    simp only [TapEntryOk]
    omega

theorem ran_writeTap : Ran r s (runWrite .tap (writeTapArgs r) (·.val) (fun _ => 1) putTap r.originator s).1 := by
  refine ran_write r s _ _ _ _ _ _ fun t e h b hb t' => ?_
  show TapEntryOk ((b.taps.set t e).get t')
  rw [get_set]
  split
  · exact tapEntryOk_of_writeTapArgs h
  · exact hb t'

theorem ran_commit : Ran r s (runCommit r s).1 := by
  unfold runCommit
  split
  · exact .read
  · exact .read
  · next htest htarget =>
    split
    · exact .read
    · refine .committed _ (sessionTest_eq_none htest).1 ?_
      rintro rfl
      unfold commitTarget at htarget
      split at htarget <;> cases htarget

theorem ran_abortEdit : Ran r s (runAbortEdit r s).1 := by
  unfold runAbortEdit
  split
  · exact .read
  · split
    · exact .aborted
    · exact .read

theorem one_le_of_durationOf {w : Word16} {d : Nat} (h : durationOf w = some d) : 1 ≤ d := by
  rw [durationOf_eq] at h
  split at h
  · cases h
  · cases h; omega

theorem ran_forcePoint : Ran r s (runForcePoint r s).1 := by
  have hlasts : ∀ x d, some (⟨(r.arg 1).getLsbD 0, r.originator, durationOf (r.arg16 2)⟩ : ForceRecord) = some x →
      x.remaining = some d → 1 ≤ d := by
    rintro x d ⟨⟩ hd
    exact one_le_of_durationOf hd
  unfold runForcePoint
  split
  · exact .read
  · split
    · exact .read
    · dsimp only
      split
      · split
        · next hroom => exact .forced _ _ (fun _ => .inr hroom) hlasts
        · exact .read
      · next x hx =>
        split
        · exact .forced _ _ (fun _ => .inl (by rw [hx]; rfl)) hlasts
        · exact .read

theorem ran_releasePoint : Ran r s (runReleasePoint r s).1 := by
  unfold runReleasePoint
  split
  · exact .read
  · split
    · exact .read
    · split
      · exact .forced _ none (fun h => by cases h) (fun _ _ h => by cases h)
      · exact .read

theorem ran_gate : Ran r s (runGate r s).1 := by
  unfold runGate; split
  · exact .read
  · exact .gated _

theorem ran_ackNotice : Ran r s (runAckNotice r s).1 := by
  unfold runAckNotice; split
  · exact .read
  · exact .acknowledged _

theorem ran_setDelivery : Ran r s (runSetDelivery r s).1 := by
  unfold runSetDelivery; split
  · exact .deliverySet ..
  · exact .read

end Runs

/-! ### The work of an event -/

/-- What a command does when its event comes about and the reset line is not held. Where a block takes what waits for it
the work is that of the taking, whichever command brings it about. -/
inductive Work : Instr → State → State → Prop
  | cell (p : Port) (raw : RawCell) (s : State) : Work (.cellReceived p raw) s (receiveCell p raw s)
  | expiry {c : Instr} (hc : c = .intervalTimerExpiry ∨ c = .enterHoldover) (s : State) : Work c s (timerExpiry s)
  | tick (s : State) : Work .referenceClockTick s (clockTick s)
  | tapCycle {c : Instr} {s : State} {x : CycleStart} {rest : List CycleStart} (h : s.tap.inbox = x :: rest) :
      Work c s (tapUnitCycle x rest s)
  | xcReport {c : Instr} {s : State} {x : TapReport} {rest : List TapReport} (h : s.xc.reports = x :: rest) :
      Work c s (xcTakeReport x rest s)
  | xcCycle {c : Instr} {s : State} {x : CycleStart} {rest : List CycleStart} (h : s.xc.inbox = x :: rest) :
      Work c s (xcCycle x rest s)
  | watchTap {c : Instr} {s : State} {x : TapReport} {rest : List TapReport} (h : s.notice.tapReports = x :: rest) :
      Work c s (noticeTakeTapReport x rest s)
  | watchPoint {c : Instr} {s : State} {x : PointReport} {rest : List WaitingReport}
      (h : nextPointReport [] s.notice.pointReports = some (x, rest)) : Work c s (noticeTakePointReport x rest s)
  | noticeCycle {c : Instr} {s : State} {x : CycleStart} {rest : List CycleStart} (h : s.notice.inbox = x :: rest) :
      Work c s (noticeCycle x rest s)
  | deliveryCycle {c : Instr} {s : State} {x : CycleStart} {rest : List CycleStart}
      (h : s.delivery.inbox = x :: rest) : Work c s (deliveryCycle rest s)
  | publisherReport {c : Instr} {s : State} {x : PointReport} {rest : List PointReport}
      (h : s.publisher.reports = x :: rest) : Work c s (publisherTakeReport x rest s)
  | publisherCycle {c : Instr} {s : State} {x : CycleStart} {rest : List CycleStart}
      (h : s.publisher.inbox = x :: rest) : Work c s (publisherCycle x rest s)
  | bankCycle {c : Instr} {s : State} {n : Word16} {rest : List Word16}
      (hc : c = .bankCycleStart ∨ s.bank.state = .editing) (h : s.bank.inbox = n :: rest) :
      Work c s (bankCycle n rest s)
  | validation {c : Instr} (s : State) : Work c s (s.onBank (completeValidation s.engine.station))
  | pick {c : Instr} (p : Port) (s : State) : Work c s (transmitterPick p s)
  | request {c : Instr} {s t : State} {r : Request} (a : Answer) {op : Byte} (hr : Ready s r op)
      (h : Ran r (dequeued r s) t) : Work c s (respond r a t)

/-- Everything that a command can do: nothing, where its event does not come about; an event of the pins, which the held
reset line does not keep out; a reset that takes effect; or work. -/
inductive Event : Instr → State → State → Prop
  | nothing (c : Instr) (s : State) : Event c s s
  | powerOn (straps : Byte) (s : State) :
      Event (.powerOn straps) s (resetPartAs .powerOn { s with straps := straps })
  | lineHeld (s : State) : Event .resetLineHeld s (holdResetLine s)
  | lineReleased (straps : Byte) (s : State) :
      Event (.resetLineRelease straps) s (resetPartAs .resetLine { s with straps := straps, resetLine := false })
  | signalGained (p : Port) (s : State) : Event (.signalGained p) s (s.onPort p gainSignal)
  | signalLost (p : Port) (s : State) : Event (.signalLost p) s (loseSignal p s)
  | reset (k : ResetCause) (s : State) (hk : k = .full ∨ k = .runtime) (free : s.resetLine = false) :
      Event .resetPartTakesEffect s (resetPartAs k s)
  | work {c : Instr} {s t : State} (free : s.resetLine = false) (h : Work c s t) : Event c s t

section Events

variable {c : Instr} {s t : State}

theorem Event.ite {p : Prop} [Decidable p] (h : Event c s t) : Event c s (if p then t else s) := by
  split
  · exact h
  · exact .nothing ..

theorem Event.unlessHeld (h : s.resetLine = false → Event c s t) : Event c s (unlessHeld s t) := by
  by_cases hl : s.resetLine = true
  · rw [unlessHeld_held hl]; exact .nothing ..
  · have free : s.resetLine = false := by simpa using hl
    rw [unlessHeld_free free]; exact h free

theorem Event.worked (h : Work c s t) : Event c s (Machine.unlessHeld s t) := .unlessHeld fun free => .work free h

theorem event_tapUnitTakes (c : Instr) (s : State) : Event c s (tapUnitTakes s) := by
  unfold tapUnitTakes; split
  · exact .nothing ..
  · next h => exact .worked (.tapCycle h)

theorem event_xcTakes (c : Instr) (s : State) : Event c s (xcTakes s) := by
  unfold xcTakes; split
  · exact .nothing ..
  · next h => exact .worked (.xcCycle h)

theorem event_noticeTakes (c : Instr) (s : State) : Event c s (noticeTakes s) := by
  unfold noticeTakes; split
  · exact .nothing ..
  · next h => exact .worked (.noticeCycle h)

theorem event_deliveryTakes (c : Instr) (s : State) : Event c s (deliveryTakes s) := by
  unfold deliveryTakes; split
  · exact .nothing ..
  · next h => exact .worked (.deliveryCycle h)

theorem event_publisherTakes (c : Instr) (s : State) : Event c s (publisherTakes s) := by
  unfold publisherTakes; split
  · exact .nothing ..
  · next h => exact .worked (.publisherCycle h)

theorem event_bankTakes (hc : c = .bankCycleStart ∨ s.bank.state = .editing) : Event c s (bankTakes s) := by
  unfold bankTakes; split
  · exact .nothing ..
  · next h => exact .worked (.bankCycle hc h)

theorem event_pendingResetActs (free : s.resetLine = false) : Event .resetPartTakesEffect s (pendingResetActs s) := by
  unfold pendingResetActs
  split
  · exact .reset _ _ (.inl rfl) free
  · exact .reset _ _ (.inr rfl) free
  all_goals exact .nothing ..

/-- R160: a request command does nothing or takes the head record, runs it and answers it. -/
theorem event_takeIf {wanted : Byte → Bool} {run : Request → State → State × Answer}
    (h : ∀ r s, Ran r s (run r s).1) (c : Instr) (s : State) : Event c s (takeIf wanted run s) := by
  obtain he | ⟨r, op, hr, -, he⟩ := takeIf_cases wanted run s <;> rw [he]
  · exact .nothing ..
  · exact .work hr.1 (.request _ hr (h r _))

/-- A request that changes nothing of its own. -/
theorem event_takeIf_read {wanted : Byte → Bool} {run : Request → State → State × Answer}
    (h : ∀ r s, (run r s).1 = s) (c : Instr) (s : State) : Event c s (takeIf wanted run s) :=
  event_takeIf (fun r s => .of_eq r s (h r s)) c s

/-- A write of another table than the taps leaves the tap entries of its bank alone. -/
theorem event_takeIf_write {ι ε : Type} {wanted : Byte → Bool} (table : TableName) (args : Request → WriteArgs ι ε)
    (index count : ι → Nat) (put : ι → ε → Bank → Bank) (htaps : ∀ i e b, (put i e b).taps = b.taps) (c : Instr)
    (s : State) :
    Event c s (takeIf wanted (fun r => runWrite table (args r) index count put r.originator) s) := by
  refine event_takeIf (fun r s => ran_write r s table (args r) index count put r.originator fun i e _ b hb => ?_) c s
  unfold BankTapsOk
  rw [htaps]
  exact hb

end Events

/-- The inversion of `exec`: every command answers a next state, by an event. -/
theorem exec_event (c : Instr) (s : State) : ∃ t, exec c s = .next t ∧ Event c s t := by
  cases c with
  | powerOn straps => exact ⟨_, rfl, .powerOn straps s⟩
  | resetLineHeld => exact ⟨_, rfl, .lineHeld s⟩
  | resetLineRelease straps => exact ⟨_, rfl, .lineReleased straps s⟩
  | resetPartTakesEffect => exact ⟨_, rfl, .unlessHeld event_pendingResetActs⟩
  | signalGained p => exact ⟨_, rfl, .signalGained p s⟩
  | signalLost p => exact ⟨_, rfl, .signalLost p s⟩
  | cellReceived p raw => exact ⟨_, rfl, .worked (.cell p raw s)⟩
  | intervalTimerExpiry => exact ⟨_, rfl, .worked (.expiry (.inl rfl) s)⟩
  | enterHoldover => exact ⟨_, rfl, .ite (.worked (.expiry (.inr rfl) s))⟩
  | referenceClockTick => exact ⟨_, rfl, .worked (.tick s)⟩
  | tapCycleStart => exact ⟨_, rfl, event_tapUnitTakes ..⟩
  | goingStale tap =>
    refine ⟨_, rfl, ?_⟩
    split
    · exact .ite (event_tapUnitTakes ..)
    · exact .nothing ..
  | xcTapReport =>
    refine ⟨_, rfl, ?_⟩
    split
    · exact .nothing ..
    · next h => exact .worked (.xcReport h)
  | xcCycleStart => exact ⟨_, rfl, event_xcTakes ..⟩
  | holdExpiry point =>
    refine ⟨_, rfl, ?_⟩
    split
    · exact .ite (event_xcTakes ..)
    · exact .nothing ..
  | forceExpiry point =>
    refine ⟨_, rfl, ?_⟩
    split
    · exact .ite (event_xcTakes ..)
    · exact .nothing ..
  | watchTapReport =>
    refine ⟨_, rfl, ?_⟩
    split
    · exact .nothing ..
    · next h => exact .worked (.watchTap h)
  | watchPointReport =>
    refine ⟨_, rfl, ?_⟩
    split
    · exact .nothing ..
    · next h => exact .worked (.watchPoint h)
  | noticeCycleStart => exact ⟨_, rfl, event_noticeTakes ..⟩
  | deliveryCycleStart => exact ⟨_, rfl, event_deliveryTakes ..⟩
  | retransmission sequence => exact ⟨_, rfl, .ite (event_deliveryTakes ..)⟩
  | noticeExpiry sequence => exact ⟨_, rfl, .ite (event_deliveryTakes ..)⟩
  | publisherPointReport =>
    refine ⟨_, rfl, ?_⟩
    split
    · exact .nothing ..
    · next h => exact .worked (.publisherReport h)
  | publisherCycleStart => exact ⟨_, rfl, event_publisherTakes ..⟩
  | periodDue group =>
    refine ⟨_, rfl, ?_⟩
    split
    · exact .ite (event_publisherTakes ..)
    · exact .nothing ..
  | bankCycleStart => exact ⟨_, rfl, event_bankTakes (.inl rfl)⟩
  | leaseExpiry =>
    refine ⟨_, rfl, ?_⟩
    split
    · next h => exact event_bankTakes (.inr h.1)
    · exact .nothing ..
  | validationCompletion => exact ⟨_, rfl, .worked (.validation s)⟩
  | transmitterPick p => exact ⟨_, rfl, .worked (.pick p s)⟩
  | unknownOp => exact ⟨_, rfl, event_takeIf_read (fun _ _ => rfl) ..⟩
  | echo => exact ⟨_, rfl, event_takeIf_read (fun _ _ => rfl) ..⟩
  | readStatus => exact ⟨_, rfl, event_takeIf_read runReadStatus_state ..⟩
  | readCounter => exact ⟨_, rfl, event_takeIf_read runReadCounter_state ..⟩
  | readEntry => exact ⟨_, rfl, event_takeIf_read runReadEntry_state ..⟩
  | readBankStatus => exact ⟨_, rfl, event_takeIf_read runReadBankStatus_state ..⟩
  | readTapState => exact ⟨_, rfl, event_takeIf_read runReadTapState_state ..⟩
  | readPointState => exact ⟨_, rfl, event_takeIf_read runReadPointState_state ..⟩
  | readWatchState => exact ⟨_, rfl, event_takeIf_read runReadWatchState_state ..⟩
  | clearIndicators => exact ⟨_, rfl, event_takeIf ran_clearIndicators ..⟩
  | resetPart => exact ⟨_, rfl, event_takeIf ran_resetPart ..⟩
  | setCycle => exact ⟨_, rfl, event_takeIf ran_setCycle ..⟩
  | openEdit => exact ⟨_, rfl, event_takeIf ran_openEdit ..⟩
  | writeTap => exact ⟨_, rfl, event_takeIf ran_writeTap ..⟩
  | writeBind => exact ⟨_, rfl, event_takeIf_write _ _ _ _ putBind (fun _ _ _ => rfl) ..⟩
  | writeWatch => exact ⟨_, rfl, event_takeIf_write _ _ _ _ putWatch (fun _ _ _ => rfl) ..⟩
  | writePublish => exact ⟨_, rfl, event_takeIf_write _ _ _ _ putPublish (fun _ _ _ => rfl) ..⟩
  | writePolicy => exact ⟨_, rfl, event_takeIf_write _ _ _ _ putPolicy (fun _ _ _ => rfl) ..⟩
  | commit => exact ⟨_, rfl, event_takeIf ran_commit ..⟩
  | abortEdit => exact ⟨_, rfl, event_takeIf ran_abortEdit ..⟩
  | forcePoint => exact ⟨_, rfl, event_takeIf ran_forcePoint ..⟩
  | releasePoint => exact ⟨_, rfl, event_takeIf ran_releasePoint ..⟩
  | gate => exact ⟨_, rfl, event_takeIf ran_gate ..⟩
  | ackNotice => exact ⟨_, rfl, event_takeIf ran_ackNotice ..⟩
  | setDelivery => exact ⟨_, rfl, event_takeIf ran_setDelivery ..⟩

/-- The event behind a command that has answered. -/
theorem event_of_exec {c : Instr} {s t : State} (h : exec c s = .next t) : Event c s t := by
  obtain ⟨u, hu, he⟩ := exec_event c s
  rw [hu] at h
  cases h
  exact he

end Sys2Proof.Machine

/-! PROOFS. The whole part: that every command completes, what may change the station number, the active bank and the
cycle count, and what the held reset line stops (R100, R115, R134, R157). -/

namespace Sys2Proof.Machine

/-! ### A cell with good check -/

theorem receiveGood_fill (p : Port) {c : Cell} (s : State) (h : c.kind = .fill) :
    receiveGood p c s = s.setPort p { s.port p with badRun := 0 } := by
  simp [receiveGood, h, State.onPort]

/-- R120, R121: the acceptance of a cell touches nothing that tells a clash. -/
theorem receiveGood_accepted (p : Port) {c : Cell} (s : State) (h : c.kind ≠ .fill) : receiveGood p c s =
    if isClash s c then clash p (s.setPort p (acceptedAt (s.port p)))
    else handleKind p c (s.setPort p (acceptedAt (s.port p))) := by
  have haccept : (s.onPort p fun ps => { ps with badRun := 0 }).onPort p
      (countOn fun k => { k with received := k.received + 1 }) = s.setPort p (acceptedAt (s.port p)) := by
    cases p <;> rfl
  have hclash : isClash (s.setPort p (acceptedAt (s.port p))) c = isClash s c := by
    simp only [isClash, setPort_engine]
  simp only [receiveGood, if_neg h, haccept, hclash]

/-! ### What cycle timing and arriving cells leave alone -/

/-- The queue of commands, the straps, the station number and the bank unit are as they were, but for the cycle starts
that wait for the bank unit. -/
structure SameHold (s t : State) : Prop where
  pending : t.pending = s.pending
  straps  : t.straps = s.straps
  station : t.engine.station = s.engine.station
  bank    : t.bank = { s.bank with inbox := t.bank.inbox }

theorem SameHold.trans {s t u : State} (h : SameHold s t) (k : SameHold t u) : SameHold s u := by
  refine ⟨k.1.trans h.1, k.2.trans h.2, k.3.trans h.3, ?_⟩
  rw [k.bank, h.bank]

theorem SameHold.active {s t : State} (h : SameHold s t) : t.bank.active = s.bank.active := by rw [h.bank]

theorem SameHold.generation {s t : State} (h : SameHold s t) : t.bank.generation = s.bank.generation := by
  rw [h.bank]

theorem Steady.sameHold {s t : State} (h : Steady s t) : SameHold s t :=
  ⟨h.pending, h.straps, h.station, by rw [h.bank]⟩

theorem sameHold_onCycle (s : State) (f : CycleTiming → CycleTiming) : SameHold s (s.onCycle f) :=
  ⟨rfl, rfl, rfl, rfl⟩

theorem sameHold_handOnCycleStart (n : Word16) (s : State) : SameHold s (handOnCycleStart n s) :=
  ⟨rfl, rfl, rfl, rfl⟩

theorem sameHold_placeOwnCycle (p : Port) (holdover : Bool) (s : State) : SameHold s (placeOwnCycle p holdover s) :=
  (steady_onPort ..).sameHold

theorem sameHold_holdoverStart (s : State) : SameHold s (holdoverStart s) :=
  (sameHold_handOnCycleStart ..).trans (sameHold_placeOwnCycle ..)

theorem sameHold_originatingStart (s : State) : SameHold s (originatingStart s) :=
  ((sameHold_handOnCycleStart ..).trans (sameHold_placeOwnCycle ..)).trans (sameHold_placeOwnCycle ..)

theorem sameHold_holdoverEntry (s : State) : SameHold s (holdoverEntry s) :=
  ((sameHold_onCycle ..).trans (steady_indicate ..).sameHold).trans (sameHold_holdoverStart _)

theorem sameHold_timerExpiry (s : State) : SameHold s (timerExpiry s) := by
  refine (sameHold_onCycle s reloadTimer).trans ?_
  unfold timerExpiry
  dsimp only
  split
  · split
    · exact sameHold_holdoverEntry _
    · split
      · exact sameHold_onCycle ..
      · exact Steady.rfl.sameHold
  · exact (sameHold_onCycle ..).trans (sameHold_holdoverStart _)
  · exact sameHold_originatingStart _

theorem sameHold_clockTick (s : State) : SameHold s (clockTick s) := by
  unfold clockTick
  split
  · exact sameHold_onCycle ..
  · split
    · exact sameHold_onCycle ..
    · exact sameHold_timerExpiry s

theorem sameHold_skewTest (n : Word16) (s : State) : SameHold s (skewTest n s) := by
  unfold skewTest; split <;> exact ⟨rfl, rfl, rfl, rfl⟩

theorem sameHold_followCycleCell (c : Cell) (s : State) : SameHold s (followCycleCell c s) :=
  (sameHold_skewTest c.stamp s).trans ⟨rfl, rfl, rfl, rfl⟩

theorem sameHold_takeCycleCell (c : Cell) (s : State) : SameHold s (takeCycleCell c s) := by
  unfold takeCycleCell
  split
  · exact sameHold_followCycleCell c s
  · exact sameHold_followCycleCell c s
  · exact ⟨rfl, rfl, rfl, rfl⟩

theorem sameHold_handleKind (p : Port) (c : Cell) (s : State) : SameHold s (handleKind p c s) := by
  unfold handleKind
  split
  · exact Steady.rfl.sameHold
  · exact sameHold_takeCycleCell c s
  · exact (steady_onPort ..).sameHold
  · exact ((steady_offerToTaps ..).trans (steady_passage ..)).sameHold
  · exact ((steady_offerToTaps ..).trans (steady_passage ..)).sameHold
  · exact (steady_onPort ..).sameHold
  · exact (steady_passage ..).sameHold
  · exact (steady_takeRequestCell ..).sameHold
  · exact (steady_onPort ..).sameHold
  · exact (steady_onPort ..).sameHold
  · exact (Steady.ite (steady_onPort ..) (steady_passage ..)).sameHold
  · exact (steady_onPort ..).sameHold

theorem sameHold_receiveGood (p : Port) (c : Cell) (s : State) : SameHold s (receiveGood p c s) := by
  by_cases hfill : c.kind = .fill
  · rw [receiveGood_fill p s hfill]
    exact (steady_setPort ..).sameHold
  · rw [receiveGood_accepted p s hfill]
    refine (steady_setPort s p (acceptedAt (s.port p))).sameHold.trans ?_
    split
    · exact ((steady_onPort ..).trans (steady_indicate ..)).sameHold
    · exact sameHold_handleKind ..

theorem sameHold_receiveCell (p : Port) (raw : RawCell) (s : State) : SameHold s (receiveCell p raw s) := by
  unfold receiveCell
  split
  · exact (steady_onPort ..).sameHold
  · split
    · exact sameHold_receiveGood ..
    · exact (steady_receiveBad ..).sameHold

/-! ### The bank unit -/

theorem bankNoSwap_active (n : Word16) (b : BankUnit) : (bankNoSwap n b).active = b.active := by
  unfold bankNoSwap
  split
  case h_1 => rfl
  all_goals split <;> rfl

theorem bankNoSwap_generation (n : Word16) (b : BankUnit) : (bankNoSwap n b).generation = b.generation := by
  unfold bankNoSwap
  split
  case h_1 => rfl
  all_goals split <;> rfl

/-- R149, R150: the bank unit passes a cycle start on without a swap, or an ARMED session's shadow bank becomes active
and is passed on with it. -/
theorem bankCycle_cases (n : Word16) (rest : List Word16) (s : State) :
    bankCycle n rest s =
      passCycleStart ⟨n, none⟩ { s with bank := bankNoSwap n { s.bank with inbox := rest } } ∨
    ∃ shadow, s.bank.state = .armed ∧ s.bank.shadow = some shadow ∧ bankCycle n rest s =
      passCycleStart ⟨n, some ⟨shadow, s.bank.generation + 1⟩⟩
        { s with bank := swapped shadow { s.bank with inbox := rest } } := by
  unfold bankCycle
  dsimp only
  split
  · next shadow hswap hshadow =>
    refine .inr ⟨shadow, ?_, hshadow, rfl⟩
    simp only [swapsAt, Bool.and_eq_true, beq_iff_eq] at hswap
    exact hswap.1
  · exact .inl rfl

theorem completeValidation_kept (station : Byte) (b : BankUnit) :
    (completeValidation station b).active = b.active ∧ (completeValidation station b).generation = b.generation := by
  unfold completeValidation
  split
  · split
    · exact ⟨rfl, rfl⟩
    · split <;> exact ⟨rfl, rfl⟩
  · exact ⟨rfl, rfl⟩

/-! ### The causes of a change -/

theorem Ran.calm {r : Request} {s t : State} (h : Ran r s t) : Calm s t := by
  cases h with
  | read => exact .rfl
  | forced p f => exact (steady_setForce p f s).calm
  | acknowledged l => exact calm_ackAll l 0 s
  | gated | deliverySet | cleared | resetPending | configured | opened | renewed | written | committed | aborted =>
    exact ⟨rfl, rfl, rfl, rfl, rfl, rfl, rfl, rfl⟩

/-- R100, R134: work that changes the cycle count or its mark is an expiry or an arriving cell, and work that changes
the active bank is the bank unit's taking of a cycle start. -/
theorem Work.causes {c : Instr} {s t : State} (h : Work c s t) :
    Calm s t ∨
    ((c = .intervalTimerExpiry ∨ c = .enterHoldover ∨ c = .referenceClockTick ∨ ∃ p raw, c = .cellReceived p raw) ∧
      SameHold s t) ∨
    (c = .bankCycleStart ∧ t.pending = s.pending ∧ t.straps = s.straps ∧ t.engine.station = s.engine.station ∧
      t.cycle = s.cycle) := by
  cases h with
  | cell p raw => exact .inr (.inl ⟨.inr (.inr (.inr ⟨p, raw, rfl⟩)), sameHold_receiveCell p raw s⟩)
  | expiry hc =>
    refine .inr (.inl ⟨?_, sameHold_timerExpiry s⟩)
    exact hc.elim .inl fun hc => .inr (.inl hc)
  | tick => exact .inr (.inl ⟨.inr (.inr (.inl rfl)), sameHold_clockTick s⟩)
  | tapCycle _ => exact .inl ⟨rfl, rfl, rfl, rfl, rfl, rfl, rfl, rfl⟩
  | xcReport _ => exact .inl (steady_xcTakeReport ..).calm
  | xcCycle _ => exact .inl (steady_xcCycle ..).calm
  | watchTap _ => exact .inl ((steady_withNotice ..).trans (steady_offerTapReport ..)).calm
  | watchPoint _ => exact .inl ((steady_withNotice ..).trans (steady_offerPointReport ..)).calm
  | noticeCycle _ => exact .inl (steady_noticeCycle ..).calm
  | deliveryCycle _ =>
    exact .inl (((steady_withDelivery ..).trans (steady_retries ..)).trans (steady_emitUpTo ..)).calm
  | publisherReport _ => exact .inl (steady_publisherTakeReport ..).calm
  | publisherCycle _ => exact .inl (steady_publisherCycle ..).calm
  | @bankCycle _ _ n rest hc _ =>
    obtain he | ⟨shadow, harmed, -, he⟩ := bankCycle_cases n rest s <;> rw [he]
    · exact .inl ⟨rfl, rfl, rfl, rfl, bankNoSwap_active .., bankNoSwap_generation .., rfl, rfl⟩
    · have hcycle : c = .bankCycleStart := hc.resolve_right fun hedit => by
        rw [hedit] at harmed; cases harmed
      exact .inr (.inr ⟨hcycle, rfl, rfl, rfl, rfl⟩)
  | validation =>
    have hkept := completeValidation_kept s.engine.station s.bank
    exact .inl (calm_onBank _ _ hkept.1 hkept.2)
  | pick p => exact .inl (steady_transmitterPick p s).calm
  | request a hr hran => exact .inl (((calm_dequeued _ s).trans hran.calm).trans (calm_respond ..))

theorem Work.pending {c : Instr} {s t : State} (h : Work c s t) : t.pending = s.pending := by
  obtain hcalm | ⟨-, hhold⟩ | ⟨-, hpending, -⟩ := h.causes
  · exact hcalm.pending
  · exact hhold.pending
  · exact hpending

theorem Event.pending {c : Instr} {s t : State} (h : Event c s t) : t.pending = s.pending := by
  cases h with
  | nothing | powerOn | lineHeld | lineReleased | reset => rfl
  | signalGained p => exact onPort_pending ..
  | signalLost p => exact (steady_loseSignal p s).pending
  | work _ h => exact h.pending

/-! ### The statements -/

/-- Settles O1: a step takes the front command by definition. -/
theorem stepTakesTheFrontCommand : Obligations.StepTakesTheFrontCommand := by
  refine ⟨fun c rest s => rfl, fun s hempty => ?idle⟩
  case idle => rw [step, hempty]

/-- Settles O2: every command is an event, and no event touches the queue. -/
theorem everyCommandCompletesAndKeepsTheQueue : Obligations.EveryCommandCompletesAndKeepsTheQueue := by
  intro c s
  obtain ⟨t, ht, hevent⟩ := exec_event c s
  exact ⟨t, ht, hevent.pending⟩

/-- Settles O3: events of the pins keep what a reset would change, and the causes of work are told apart by their
commands. -/
theorem stationBankAndCountHaveTheirOwnCauses : Obligations.StationBankAndCountHaveTheirOwnCauses := by
  intro c s t hexec hpins
  have ofCalm : ∀ {u}, Calm s u → (u.engine.station = s.engine.station ∧ u.straps = s.straps) ∧
      (c ≠ .resetPartTakesEffect →
        (c ≠ .bankCycleStart → u.bank.active = s.bank.active ∧ u.bank.generation = s.bank.generation) ∧
        (c ≠ .intervalTimerExpiry → c ≠ .enterHoldover → c ≠ .referenceClockTick →
          (∀ p raw, c ≠ .cellReceived p raw) →
          u.cycle.count = s.cycle.count ∧ u.cycle.established = s.cycle.established)) := fun h =>
    ⟨⟨h.station, h.straps⟩, fun _ => ⟨fun _ => ⟨h.active, h.generation⟩, fun _ _ _ _ => ⟨h.count, h.established⟩⟩⟩
  cases event_of_exec hexec with
  | nothing => exact ofCalm .rfl
  | powerOn straps => exact absurd rfl (hpins straps).1
  | lineReleased straps => exact absurd rfl (hpins straps).2
  | lineHeld => exact ⟨⟨rfl, rfl⟩, fun _ => ⟨fun _ => ⟨rfl, rfl⟩, fun _ _ _ _ => ⟨rfl, rfl⟩⟩⟩
  | signalGained p => exact ofCalm (steady_onPort ..).calm
  | signalLost p => exact ofCalm (steady_loseSignal p s).calm
  | reset k _ hk =>
    refine ⟨⟨?_, rfl⟩, fun hne => absurd rfl hne⟩
    obtain rfl | rfl := hk <;> rfl
  | work _ hwork =>
    obtain hcalm | ⟨hc, hhold⟩ | ⟨hc, -, hstraps, hstation, hcycle⟩ := hwork.causes
    · exact ofCalm hcalm
    · refine ⟨⟨hhold.station, hhold.straps⟩, fun _ => ⟨fun _ => ⟨hhold.active, hhold.generation⟩, ?_⟩⟩
      intro hexpiry henter htick hcell
      obtain rfl | rfl | rfl | ⟨p, raw, rfl⟩ := hc
      · exact absurd rfl hexpiry
      · exact absurd rfl henter
      · exact absurd rfl htick
      · exact absurd rfl (hcell p raw)
    · exact ⟨⟨hstation, hstraps⟩, fun _ => ⟨fun hne => absurd hc hne, fun _ _ _ _ => by rw [hcycle]; exact ⟨rfl, rfl⟩⟩⟩

/-- Settles O6: while the line is held no work is done, and every event that is left is one of the pins. -/
theorem heldResetLineStopsThePart : Obligations.HeldResetLineStopsThePart := by
  refine ⟨fun s => rfl, fun c s hheld hpins hsignal hline => ?stopped⟩
  obtain ⟨t, ht, hevent⟩ := exec_event c s
  rw [ht]
  cases hevent with
  | nothing => rfl
  | powerOn straps => exact absurd rfl (hpins straps).1
  | lineReleased straps => exact absurd rfl (hpins straps).2
  | lineHeld => exact absurd rfl hline
  | signalGained p => exact absurd rfl (hsignal p).1
  | signalLost p => exact absurd rfl (hsignal p).2
  | reset k _ _ free => rw [free] at hheld; cases hheld
  | work free _ => rw [free] at hheld; cases hheld

end Sys2Proof.Machine

/-! PROOFS. What the work of the notice unit and of the publisher writes: everything else is as it was. The invariants of
the other blocks are kept by such work with no further argument. -/

namespace Sys2Proof.Machine

/-! ### The raising side -/

/-- Nothing is written but the raising side of the notice unit and the indicators. -/
def NoticeWrites (s t : State) : Prop :=
  ∃ u i, t = { s with notice := u, engine := { s.engine with indicators := i } }

theorem NoticeWrites.rfl {s : State} : NoticeWrites s s := ⟨_, _, Eq.refl _⟩

theorem NoticeWrites.trans {s t u : State} (h : NoticeWrites s t) (k : NoticeWrites t u) : NoticeWrites s u := by
  obtain ⟨n, i, rfl⟩ := h
  obtain ⟨m, j, rfl⟩ := k
  exact ⟨m, j, Eq.refl _⟩

theorem NoticeWrites.foldl {α : Type} {f : State → α → State} (h : ∀ s a, NoticeWrites s (f s a)) (l : List α)
    (s : State) : NoticeWrites s (l.foldl f s) := by
  induction l generalizing s with
  | nil => exact .rfl
  | cons a l ih => exact (h s a).trans (ih _)

theorem NoticeWrites.ite {s t u : State} {p : Prop} [Decidable p] (h : NoticeWrites s t) (k : NoticeWrites s u) :
    NoticeWrites s (if p then t else u) := by split <;> assumption

theorem noticeWrites_withNotice (s : State) (u : NoticeUnit) : NoticeWrites s { s with notice := u } := ⟨u, _, rfl⟩

theorem noticeWrites_indicate (s : State) (i : Indicator) : NoticeWrites s (s.indicate i) := ⟨_, _, rfl⟩

theorem noticeWrites_countLost (s : State) : NoticeWrites s (countLost s) := ⟨_, _, rfl⟩

theorem noticeWrites_onWatch (s : State) (w : WatchNo) (f : WatchRecord → WatchRecord) :
    NoticeWrites s (s.onWatch w f) := ⟨_, _, rfl⟩

theorem noticeWrites_enqueueNotice (n : Notice) (s : State) : NoticeWrites s (enqueueNotice n s) := ⟨_, _, rfl⟩

theorem noticeWrites_displaceLast (s : State) : NoticeWrites s (displaceLast s) := by
  unfold displaceLast
  split
  · exact .rfl
  · exact ⟨_, _, rfl⟩

theorem noticeWrites_offerNotice (n : Notice) (s : State) : NoticeWrites s (offerNotice n s) := by
  unfold offerNotice
  refine .ite (noticeWrites_enqueueNotice ..) (.ite ?_ ((noticeWrites_countLost s).trans (noticeWrites_indicate ..)))
  exact ((noticeWrites_displaceLast s).trans (noticeWrites_indicate ..)).trans (noticeWrites_enqueueNotice ..)

theorem noticeWrites_takeOccurrence (w : WatchNo) (o : Occurrence) (n : Word16) (s : State) :
    NoticeWrites s (takeOccurrence w o n s) :=
  .ite ⟨_, _, rfl⟩ (.ite ⟨_, _, rfl⟩ ((noticeWrites_withNotice s _).trans (noticeWrites_offerNotice ..)))

theorem noticeWrites_withdraw (w : WatchNo) (s : State) : NoticeWrites s (withdraw w s) := .ite ⟨_, _, rfl⟩ .rfl

theorem noticeWrites_offerToWatch (w : WatchNo) (e : WatchEntry) (b v : Bool) (o : Occurrence) (s : State) :
    NoticeWrites s (offerToWatch w e b v o s) :=
  .ite (noticeWrites_takeOccurrence ..) (.ite (noticeWrites_withdraw ..) .rfl)

theorem noticeWrites_takeTapReport (r : TapReport) (rest : List TapReport) (s : State) :
    NoticeWrites s (noticeTakeTapReport r rest s) :=
  (noticeWrites_withNotice s _).trans (.foldl (fun _ _ => .ite (noticeWrites_offerToWatch ..) .rfl) _ _)

theorem noticeWrites_takePointReport (r : PointReport) (rest : List WaitingReport) (s : State) :
    NoticeWrites s (noticeTakePointReport r rest s) :=
  (noticeWrites_withNotice s _).trans (.foldl (fun _ _ => .ite (noticeWrites_offerToWatch ..) .rfl) _ _)

theorem noticeWrites_evaluateLevel (n : Word16) (w : WatchNo) (s : State) : NoticeWrites s (evaluateLevel n w s) :=
  .ite (.ite (.ite (noticeWrites_withdraw ..) .rfl) (.ite (noticeWrites_takeOccurrence ..) .rfl)) .rfl

theorem noticeWrites_carryWatch (new : Tab 48 WatchEntry) (w : WatchNo) (s : State) :
    NoticeWrites s (carryWatch new w s) :=
  .ite .rfl ((noticeWrites_withdraw w s).trans (noticeWrites_onWatch ..))

theorem noticeWrites_noticeCycle (c : CycleStart) (rest : List CycleStart) (s : State) :
    NoticeWrites s (noticeCycle c rest s) := by
  have hlevels : ∀ t, NoticeWrites t ((indices 48).foldl (fun s w => evaluateLevel c.count w s) (lowerHoldoffs t)) :=
    fun t => (noticeWrites_withNotice t _).trans (.foldl (fun s w => noticeWrites_evaluateLevel c.count w s) _ _)
  have hswap : ∀ new t, NoticeWrites t (noticeApplySwap new t) := fun new t =>
    (NoticeWrites.foldl (fun s w => noticeWrites_carryWatch new w s) (indices 48) t).trans
      (noticeWrites_withNotice ..)
  unfold noticeCycle
  cases c.swap with
  | none => exact (noticeWrites_withNotice s _).trans (hlevels _)
  | some w => exact ((noticeWrites_withNotice s _).trans (hlevels _)).trans (hswap ..)

/-! ### The delivery side -/

/-- Nothing is written but the two sides of the notice unit, the trunk port and the indicators. -/
def DeliveryWrites (s t : State) : Prop := ∃ u d p i,
  t = { s with notice := u, delivery := d, trunk := p, engine := { s.engine with indicators := i } }

theorem DeliveryWrites.rfl {s : State} : DeliveryWrites s s := ⟨_, _, _, _, Eq.refl _⟩

theorem DeliveryWrites.trans {s t u : State} (h : DeliveryWrites s t) (k : DeliveryWrites t u) :
    DeliveryWrites s u := by
  obtain ⟨n, d, p, i, rfl⟩ := h
  obtain ⟨m, e, q, j, rfl⟩ := k
  exact ⟨m, e, q, j, Eq.refl _⟩

theorem deliveryWrites_retryRecord (f : FlightRecord) (s : State) : DeliveryWrites s (retryRecord f s).2 := by
  unfold retryRecord
  split
  · split
    · split
      · exact ⟨_, _, _, _, rfl⟩
      · exact .rfl
    · exact ⟨_, _, _, _, rfl⟩
  · exact .rfl

theorem deliveryWrites_retryAll (l : List FlightRecord) (s : State) : DeliveryWrites s (retryAll l s).2 := by
  induction l generalizing s with
  | nil => exact .rfl
  | cons f l ih => exact (deliveryWrites_retryRecord f s).trans (ih _)

theorem deliveryWrites_withDelivery (s : State) (u : DeliveryUnit) : DeliveryWrites s { s with delivery := u } :=
  ⟨_, u, _, _, rfl⟩

theorem deliveryWrites_emitUpTo (k : Nat) (s : State) : DeliveryWrites s (emitUpTo k s) := by
  induction k generalizing s with
  | zero => exact .rfl
  | succ k ih =>
    unfold emitUpTo
    split
    · exact .rfl
    · split
      · exact DeliveryWrites.trans ⟨_, _, _, _, rfl⟩ (ih _)
      · exact .rfl

theorem deliveryWrites_deliveryCycle (rest : List CycleStart) (s : State) :
    DeliveryWrites s (deliveryCycle rest s) :=
  (((deliveryWrites_withDelivery s _).trans (deliveryWrites_retryAll ..)).trans
    (deliveryWrites_withDelivery ..)).trans (deliveryWrites_emitUpTo ..)

/-- R83: an ACK-NOTICE writes the records in flight and the count of those acknowledged. -/
theorem ackAll_writes (l : List Byte) (k : Nat) (s : State) :
    ∃ u d, (ackAll l k s).2 = { s with notice := u, delivery := d } := by
  induction l generalizing k s with
  | nil => exact ⟨_, _, rfl⟩
  | cons q l ih =>
    obtain ⟨u, d, hone⟩ : ∃ u d, (ackOne q s).2 = { s with notice := u, delivery := d } := by
      unfold ackOne; split <;> exact ⟨_, _, rfl⟩
    obtain ⟨u', d', hrest⟩ := ih (k + 1) (ackOne q s).2
    refine ⟨u', d', ?_⟩
    rw [hone] at hrest
    exact (congrArg (fun t => (ackAll l (k + 1) t).2) hone).trans hrest

/-! ### The publisher -/

/-- Nothing is written but the publisher and the two ports. -/
def PublisherWrites (s t : State) : Prop := ∃ u p q, t = { s with publisher := u, trunk := p, field := q }

theorem PublisherWrites.rfl {s : State} : PublisherWrites s s := ⟨_, _, _, Eq.refl _⟩

theorem PublisherWrites.trans {s t u : State} (h : PublisherWrites s t) (k : PublisherWrites t u) :
    PublisherWrites s u := by
  obtain ⟨n, p, q, rfl⟩ := h
  obtain ⟨m, p', q', rfl⟩ := k
  exact ⟨m, p', q', Eq.refl _⟩

theorem PublisherWrites.foldl {α : Type} {f : State → α → State} (h : ∀ s a, PublisherWrites s (f s a)) (l : List α)
    (s : State) : PublisherWrites s (l.foldl f s) := by
  induction l generalizing s with
  | nil => exact .rfl
  | cons a l ih => exact (h s a).trans (ih _)

theorem publisherWrites_withPublisher (s : State) (u : Publisher) : PublisherWrites s { s with publisher := u } :=
  ⟨u, _, _, rfl⟩

theorem publisherWrites_takeReport (r : PointReport) (rest : List PointReport) (s : State) :
    PublisherWrites s (publisherTakeReport r rest s) := by
  unfold publisherTakeReport
  dsimp only
  split <;> exact ⟨_, _, _, rfl⟩

theorem publisherWrites_groupCycle (n : Word16) (g : GroupNo) (s : State) : PublisherWrites s (groupCycle n g s) := by
  unfold groupCycle
  dsimp only
  split
  · exact .rfl
  · split <;> exact ⟨_, _, _, rfl⟩

theorem publisherWrites_publisherCycle (c : CycleStart) (rest : List CycleStart) (s : State) :
    PublisherWrites s (publisherCycle c rest s) := by
  have hgroups : ∀ t, PublisherWrites t ((indices 4).foldl (fun s g => groupCycle c.count g s) t) :=
    .foldl (fun s g => publisherWrites_groupCycle c.count g s) _
  unfold publisherCycle
  cases c.swap with
  | none => exact (publisherWrites_withPublisher s _).trans (hgroups _)
  | some w =>
    exact ((publisherWrites_withPublisher s _).trans (hgroups _)).trans (publisherWrites_withPublisher ..)

end Sys2Proof.Machine

/-! PROOFS. The banks' invariant: a session's fields agree with the bank state, and no bank that breaks a rule becomes
active (chapter 8, R134, R135, R146). -/

namespace Sys2Proof.Machine

/-! ### The session -/

section Session

variable {b : BankUnit}

theorem sessionOk_endSession {o : SessionOutcome} (b : BankUnit) (ho : o ≠ .rejected) : SessionOk (endSession o b) := by
  simp [SessionOk, endSession, ho]

theorem sessionOk_backToEditing {o : SessionOutcome} {e : Option FirstError} (h : SessionOk b) (hs : b.state ≠ .idle)
    (he : e ≠ none ↔ o = .rejected) : SessionOk (backToEditing o e b) := by
  obtain ⟨hshadow, -, hopen, -⟩ := h
  obtain ⟨howner, hlease, hmax⟩ := hopen hs
  have hsome : b.shadow ≠ none := fun hn => hs (hshadow.2 hn)
  simp [SessionOk, backToEditing, hsome, howner, hlease, hmax, he]

theorem sessionOk_openSession (o : Originator) {lease : Nat} (h : SessionOk b) (hidle : b.state = .idle)
    (hpos : lease ≠ 0) (hmax : lease ≤ 255) : SessionOk (openSession o lease b) := by
  obtain ⟨-, -, -, -, -, hpassed, herror⟩ := h
  have hnot : b.targetPassed = false := by
    by_contra hp
    rw [hidle] at hpassed
    cases (hpassed (by simpa using hp)).1
  simp [SessionOk, openSession, hnot, hmax, herror]
  omega

theorem sessionOk_lease {lease left : Nat} (h : SessionOk b) (hedit : b.state = .editing) (hpos : 1 ≤ left)
    (hle : left ≤ lease) (hmax : lease ≤ 255) : SessionOk { b with lease := lease, leaseRemaining := left } := by
  obtain ⟨hshadow, -, hopen, -, hrest⟩ := h
  have howner := (hopen (by simp [hedit])).1
  refine ⟨hshadow, ?_, fun _ => ⟨howner, hpos.trans hle, hmax⟩, fun _ => ⟨hpos, hle⟩, hrest⟩
  simp [hedit]

theorem sessionOk_reloadLease (o : Originator) (h : SessionOk b) : SessionOk (reloadLease o b) := by
  unfold reloadLease
  split
  · next hreload =>
    have hedit : b.state = .editing := by simp at hreload; exact hreload.1
    obtain ⟨-, hpos, hmax⟩ := h.2.2.1 (by simp [hedit])
    exact sessionOk_lease h hedit hpos le_rfl hmax
  · exact h

theorem sessionOk_shadow (f : Bank → Bank) (h : SessionOk b) : SessionOk { b with shadow := b.shadow.map f } := by
  refine ⟨?_, h.2⟩
  simpa using h.1

theorem sessionOk_beginValidation {target : Target} (h : SessionOk b) (hedit : b.state = .editing)
    (ht : target ≠ .none) : SessionOk (beginValidation target b) := by
  obtain ⟨hshadow, -, hopen, -, -, -, herror⟩ := h
  have hopen := hopen (by simp [hedit])
  have hsome : b.shadow ≠ none := fun hn => by rw [hedit] at hshadow; cases hshadow.2 hn
  simp [SessionOk, beginValidation, hsome, hopen, ht, herror]

end Session

/-! ### The invariant under the work of the bank unit -/

/-- The banks' invariant without the rest of the part: the station number and the bank unit alone matter. -/
def BankOk (station : Byte) (b : BankUnit) : Prop :=
  SessionOk b ∧ validate station b.active = none ∧
    ∀ x, b.state = .armed → b.shadow = some x → validate station x = none

theorem banksInv_iff (s : State) : BanksInv s ↔ BankOk s.engine.station s.bank := Iff.rfl

section Bank

variable {station : Byte} {b : BankUnit}

/-- Outside ARMED the shadow bank is under no rule. -/
theorem BankOk.of_not_armed {b' : BankUnit} (h : BankOk station b) (hsession : SessionOk b')
    (hactive : b'.active = b.active) (hstate : b'.state ≠ .armed) : BankOk station b' :=
  ⟨hsession, by rw [hactive]; exact h.2.1, fun _ harmed => absurd harmed hstate⟩

theorem bankOk_endSession {o : SessionOutcome} (h : BankOk station b) (ho : o ≠ .rejected) :
    BankOk station (endSession o b) :=
  h.of_not_armed (sessionOk_endSession b ho) rfl (by simp [endSession])

theorem bankOk_backToEditing {o : SessionOutcome} {e : Option FirstError} (h : BankOk station b)
    (hs : b.state ≠ .idle) (he : e ≠ none ↔ o = .rejected) : BankOk station (backToEditing o e b) :=
  h.of_not_armed (sessionOk_backToEditing h.1 hs he) rfl (by simp [backToEditing])

theorem bankOk_reloadLease (o : Originator) (h : BankOk station b) : BankOk station (reloadLease o b) := by
  refine ⟨sessionOk_reloadLease o h.1, ?_⟩
  rw [reloadLease_eq]
  exact h.2

theorem bankOk_bankNoSwap (n : Word16) (h : BankOk station b) : BankOk station (bankNoSwap n b) := by
  unfold bankNoSwap
  split
  · exact h
  · next hedit =>
    split
    · exact bankOk_endSession h (by simp)
    · obtain ⟨-, -, hmax⟩ := h.1.2.2.1 (by simp [hedit])
      have hle := (h.1.2.2.2.1 hedit).2
      exact h.of_not_armed (sessionOk_lease h.1 hedit (by omega) (by omega) hmax) rfl (by simp [hedit])
  · next hval =>
    split
    · next hreached =>
      have hnext : b.target ≠ .next := fun hn => by rw [hn] at hreached; cases hreached
      refine h.of_not_armed ?_ rfl (by simp [hval])
      obtain ⟨h1, h2, h3, h4, h5, -, h7⟩ := h.1
      exact ⟨h1, h2, h3, h4, h5, fun _ => ⟨hval, hnext⟩, h7⟩
    · exact h
  · next harmed =>
    split
    · exact bankOk_backToEditing h (by simp [harmed]) (by simp)
    · exact h

/-- R146, R150: an ARMED session's shadow bank breaks no rule, so that the bank it becomes breaks none. -/
theorem bankOk_swapped {shadow : Bank} (h : BankOk station b) (harmed : b.state = .armed)
    (hshadow : b.shadow = some shadow) : BankOk station (swapped shadow b) := by
  refine ⟨sessionOk_endSession (o := .committed) b (by simp), h.2.2 shadow harmed hshadow, ?_⟩
  simp [swapped, endSession]

theorem bankOk_completeValidation (h : BankOk station b) : BankOk station (completeValidation station b) := by
  unfold completeValidation
  split
  · next shadow hval hshadow =>
    split
    · exact bankOk_backToEditing h (by simp [hval]) (by simp)
    · next hvalid =>
      split
      · exact bankOk_backToEditing h (by simp [hval]) (by simp)
      · next hpassed =>
        obtain ⟨⟨h1, -, h3, -, h5, -, h7⟩, hactive, -⟩ := h
        refine ⟨?_, hactive, fun x _ hx => ?_⟩
        · simp_all [SessionOk]
        · rw [hshadow] at hx; cases hx; exact hvalid
  · exact h

theorem bankOk_ran {r : Request} {s t : State} (h : BankOk s.engine.station s.bank) (hran : Ran r s t) :
    BankOk t.engine.station t.bank := by
  have hlease := (r.arg 0).isLt
  cases hran with
  | read | cleared | resetPending | configured | gated | deliverySet | forced => exact h
  | acknowledged l =>
    obtain ⟨u, d, he⟩ := ackAll_writes l 0 s
    rw [he]
    exact h
  | opened hidle hpos =>
    exact h.of_not_armed (sessionOk_openSession _ h.1 hidle hpos (by omega)) rfl (by simp [openSession])
  | renewed hedit hpos =>
    exact h.of_not_armed (sessionOk_lease h.1 hedit (by omega) le_rfl (by omega)) rfl (by simp [hedit])
  | written put hedit => exact h.of_not_armed (sessionOk_shadow put h.1) rfl (by simp [writeShadow, hedit])
  | committed target hedit htarget =>
    exact h.of_not_armed (sessionOk_beginValidation h.1 hedit htarget) rfl (by simp [beginValidation])
  | aborted => exact bankOk_endSession h (by simp)

end Bank

/-! ### The resets -/

/-- R134, R146: the empty bank enables nothing and so breaks no rule, under any station number. -/
theorem validate_emptyBank (station : Byte) : validate station emptyBank = none := by
  have htap : ∀ t, tapFault station (emptyBank.taps.get t) = none := fun t => by
    simp [emptyBank, tapFault, emptyTapEntry]
  have hbind : ∀ p, bindFault emptyBank.taps (emptyBank.binds.get p) = none := fun p => by
    simp [emptyBank, bindFault, emptyBindEntry, countFits]
  have hwatch : ∀ w, watchFault emptyBank.taps (emptyBank.watches.get w) = none := fun w => by
    simp [emptyBank, watchFault, emptyWatchEntry, subjectDisabled, isLevel]
  simp only [validate, firstFault_eq_none.2 htap, firstFault_eq_none.2 hbind, firstFault_eq_none.2 hwatch,
    Option.or_none]

theorem sessionOk_resetBank (k : ResetCause) {b : BankUnit} (h : SessionOk b) : SessionOk (resetBank k b) := by
  have herror := h.2.2.2.2.2.2
  simp only [SessionOk, resetBank]
  cases k <;> simp [keepsTables, herror]

/-- R156, R157: a reset that changes the station number empties the active bank. -/
theorem banksInv_resetPartAs (k : ResetCause) {s : State} (h : BanksInv s) : BanksInv (resetPartAs k s) := by
  refine ⟨sessionOk_resetBank k h.1, ?_, fun b harmed => by cases harmed⟩
  cases k with
  | powerOn | resetLine | full => exact validate_emptyBank _
  | runtime => exact h.2.1

/-! ### The statement -/

theorem banksInv_of_sameHold {s t : State} (h : BanksInv s) (hst : SameHold s t) : BanksInv t := by
  rw [banksInv_iff, hst.station, hst.bank]
  exact h

theorem banksInv_work {c : Instr} {s t : State} (h : BanksInv s) (hwork : Work c s t) : BanksInv t := by
  cases hwork with
  | cell p raw => exact banksInv_of_sameHold h (sameHold_receiveCell p raw s)
  | expiry => exact banksInv_of_sameHold h (sameHold_timerExpiry s)
  | tick => exact banksInv_of_sameHold h (sameHold_clockTick s)
  | tapCycle | xcReport => exact h
  | xcCycle => exact banksInv_of_sameHold h (steady_xcCycle ..).sameHold
  | watchTap => exact banksInv_of_sameHold h ((steady_withNotice ..).trans (steady_offerTapReport ..)).sameHold
  | watchPoint => exact banksInv_of_sameHold h ((steady_withNotice ..).trans (steady_offerPointReport ..)).sameHold
  | noticeCycle => exact banksInv_of_sameHold h (steady_noticeCycle ..).sameHold
  | deliveryCycle =>
    exact banksInv_of_sameHold h
      (((steady_withDelivery ..).trans (steady_retries ..)).trans (steady_emitUpTo ..)).sameHold
  | publisherReport => exact banksInv_of_sameHold h (steady_publisherTakeReport ..).sameHold
  | publisherCycle => exact banksInv_of_sameHold h (steady_publisherCycle ..).sameHold
  | @bankCycle _ _ n rest =>
    have hinbox : BankOk s.engine.station { s.bank with inbox := rest } := h
    obtain he | ⟨shadow, harmed, hshadow, he⟩ := bankCycle_cases n rest s <;> rw [he]
    · exact bankOk_bankNoSwap n hinbox
    · exact bankOk_swapped hinbox harmed hshadow
  | validation => exact bankOk_completeValidation h
  | pick p => exact banksInv_of_sameHold h (steady_transmitterPick p s).sameHold
  | @request _ _ _ r a _ _ hran =>
    have htaken : BankOk s.engine.station (dequeued r s).bank := bankOk_reloadLease r.originator h
    have hanswered := bankOk_ran (s := dequeued r s) htaken hran
    exact hanswered

/-- Settles O59: the bank unit's own work keeps its invariant, and the work of every other block leaves the bank unit
and the station number as they were. -/
theorem stepsKeepTheBanksInOrder : Obligations.StepsKeepTheBanksInOrder := by
  refine step_keeps (fun _ _ h => h) fun c s t h hexec => ?_
  cases event_of_exec hexec with
  | nothing | lineHeld => exact h
  | powerOn straps => exact banksInv_resetPartAs .powerOn (s := { s with straps := straps }) h
  | lineReleased straps =>
    exact banksInv_resetPartAs .resetLine (s := { s with straps := straps, resetLine := false }) h
  | signalGained p => exact banksInv_of_sameHold h (steady_onPort ..).sameHold
  | signalLost p => exact banksInv_of_sameHold h (steady_loseSignal p s).sameHold
  | reset k => exact banksInv_resetPartAs k h
  | work _ hwork => exact banksInv_work h hwork

end Sys2Proof.Machine

/-! PROOFS. The ports: signal reports, the line state, and the cells that an UP port discards (chapter 7, R115 to R121,
R124). -/

namespace Sys2Proof.Machine

/-! ### A port set, and set again -/

@[simp] theorem setPort_port (s : State) (p : Port) : s.setPort p (s.port p) = s := by cases p <;> rfl

@[simp] theorem setPort_setPort (s : State) (p : Port) (a b : PortState) :
    (s.setPort p a).setPort p b = s.setPort p b := by cases p <;> rfl

theorem onPort_eq (s : State) (p : Port) (f : PortState → PortState) : s.onPort p f = s.setPort p (f (s.port p)) := rfl

theorem onPort_setPort (s : State) (p : Port) (ps : PortState) (f : PortState → PortState) :
    (s.setPort p ps).onPort p f = s.setPort p (f ps) := by
  rw [onPort_eq, port_setPort, setPort_setPort]

theorem setPort_indicate (s : State) (p : Port) (ps : PortState) (i : Indicator) :
    (s.setPort p ps).indicate i =
      { s with engine := { s.engine with indicators := s.engine.indicators ||| indicatorBit i } }.setPort p ps := by
  cases p <;> rfl

/-! ### Signal reports -/

/-- R117, R118, R169: the part but for the port, as the port goes DOWN: LINK-LOST is set, and a pending RESET-PART loses
its waiting response to a flush of the trunk port. -/
def linkLostAt (p : Port) (s : State) : State :=
  { s with engine := { s.engine with
      indicators := s.engine.indicators ||| 0x010, state := flushedBy p s.engine.state } }

theorem goDown_setPort (p : Port) (s : State) (ps : PortState) :
    goDown p (s.setPort p ps) = (linkLostAt p s).setPort p (wentDown ps) := by
  rw [goDown_eq, port_setPort]
  cases p <;> rfl

section Signal

variable {p : Port} {s : State}

theorem exec_signalGained_new (h : (s.port p).signal = false) :
    exec (.signalGained p) s = .next (s.setPort p { s.port p with signal := true, goodRun := 0 }) := by
  have hgain : gainSignal (s.port p) = { s.port p with signal := true, goodRun := 0 } := by simp [gainSignal, h]
  rw [← hgain]; rfl

theorem exec_signalGained_known (h : (s.port p).signal = true) : exec (.signalGained p) s = .next s := by
  have hgain : s.onPort p gainSignal = s := by rw [onPort_eq, gainSignal, if_pos h, setPort_port]
  exact congrArg Host.Outcome.next hgain

theorem loseSignal_down (h : (s.port p).line = .down) :
    loseSignal p s = s.setPort p { s.port p with signal := false, goodRun := 0 } := by
  unfold loseSignal; rw [h]; rfl

theorem loseSignal_up (h : (s.port p).line = .up) :
    loseSignal p s = (linkLostAt p s).setPort p { wentDown (s.port p) with signal := false } := by
  have hdown : goDown p s = (linkLostAt p s).setPort p (wentDown (s.port p)) := by
    rw [← goDown_setPort, setPort_port]
  unfold loseSignal
  rw [h]
  dsimp only
  rw [hdown, onPort_setPort]

end Signal

/-- Settles O7: whether the receiver had signal, and whether the port is UP, select one outcome each. -/
theorem signalReportsActOnTheirPort : Obligations.SignalReportsActOnTheirPort := by
  refine fun p s => ⟨exec_signalGained_new, exec_signalGained_known, fun hdown => ?down, fun hup => ?up⟩
  case down => exact congrArg Host.Outcome.next (loseSignal_down hdown)
  case up => exact congrArg Host.Outcome.next (loseSignal_up hup)

/-! ### Cells at a DOWN port -/

section Arrival

variable {p : Port} {raw : RawCell} {s : State}

theorem exec_cellReceived (free : s.resetLine = false) :
    exec (.cellReceived p raw) s = .next (receiveCell p raw s) :=
  congrArg Host.Outcome.next (unlessHeld_free free _)

theorem receiveCell_down (h : (s.port p).line = .down) :
    receiveCell p raw s = s.setPort p (acquire (goodCheck raw) (s.port p)) := by
  unfold receiveCell; rw [h]; rfl

theorem acquire_bad (ps : PortState) : acquire false ps = { ps with goodRun := 0 } := rfl

theorem acquire_counts {ps : PortState} (hs : ps.signal = true) (h : ps.goodRun < 3) :
    acquire true ps = { ps with goodRun := ps.goodRun + 1 } := by
  simp [acquire, hs, h]

theorem acquire_comesUp {ps : PortState} (hs : ps.signal = true) (h : 3 ≤ ps.goodRun) :
    acquire true ps = { ps with line := .up, goodRun := 0, badRun := 0 } := by
  simp [acquire, hs, Nat.not_lt.2 h]

theorem acquire_noSignal {ps : PortState} (hs : ps.signal = false) : acquire true ps = ps := by
  simp [acquire, hs]

end Arrival

/-- Settles O8: at a DOWN port the check, the signal and the good run select one outcome. -/
theorem downPortAcquiresItsLine : Obligations.DownPortAcquiresItsLine := by
  refine fun p raw s free hdown => ⟨fun hbad => ?bad, fun hgood hsignal hrun => ?counted,
    fun hgood hsignal hrun => ?up, fun hgood hsignal => ?silent⟩
  all_goals rw [exec_cellReceived free, receiveCell_down hdown]
  case bad => rw [hbad, acquire_bad]
  case counted => rw [hgood, acquire_counts hsignal hrun]
  case up => rw [hgood, acquire_comesUp hsignal hrun.ge]
  case silent => rw [hgood, acquire_noSignal hsignal, setPort_port]

/-! ### Cells with bad check at an UP port -/

section Bad

variable {p : Port} {raw : RawCell} {s : State}

theorem receiveCell_bad (hup : (s.port p).line = .up) (hbad : goodCheck raw = false) :
    receiveCell p raw s = receiveBad p s := by
  unfold receiveCell; rw [hup, hbad]; rfl

/-- R120: a port that has counted a cell with bad check. -/
def checkErrorAt (ps : PortState) : PortState :=
  { ps with counters := { ps.counters with checkErrors := ps.counters.checkErrors + 1 } }

theorem receiveBad_counts (h : (s.port p).badRun < 7) :
    receiveBad p s = s.setPort p { checkErrorAt (s.port p) with badRun := (s.port p).badRun + 1 } := by
  have hrun : ¬8 ≤ (s.port p).badRun + 1 := by omega
  simp only [receiveBad, onPort_eq, port_setPort, if_neg hrun]
  rfl

/-- R117, R118: the run that takes the port DOWN is not seen in what it leaves. -/
theorem receiveBad_eighth (h : 7 ≤ (s.port p).badRun) :
    receiveBad p s = (linkLostAt p s).setPort p (wentDown (checkErrorAt (s.port p))) := by
  have hrun : 8 ≤ (s.port p).badRun + 1 := by omega
  simp only [receiveBad, onPort_eq, port_setPort, if_pos hrun, goDown_setPort]
  rfl

end Bad

/-- Settles O9: the bad run selects the outcome. -/
theorem badCellsAreCountedAndTheEighthTakesThePortDown :
    Obligations.BadCellsAreCountedAndTheEighthTakesThePortDown := by
  refine fun p raw s free hup hbad => ⟨fun hrun => ?counted, fun hrun => ?down⟩
  all_goals rw [exec_cellReceived free, receiveCell_bad hup hbad]
  case counted => rw [receiveBad_counts hrun]; rfl
  case down => rw [receiveBad_eighth hrun.ge]; rfl

/-! ### Cells with good check at an UP port -/

/-- The code of each kind that has one. -/
theorem kind_of_kindCode {c : Cell} {k : BitVec 4} (h : c.kindCode = k) : c.kind = Kind.ofCode k := by
  rw [Cell.kind, h]

theorem ofCode_unknown {k : BitVec 4} (h : 7 ≤ k.toNat) : Kind.ofCode k = .unknown := by
  unfold Kind.ofCode
  split
  case h_8 => rfl
  all_goals omega

theorem kind_eq_fill_iff {c : Cell} : c.kind = .fill ↔ c.kindCode = 0 := by
  unfold Cell.kind
  generalize c.kindCode = k
  revert k; decide

/-- R121: the cells that clash are those of the part's own station of three kinds. -/
theorem isClash_eq (s : State) (c : Cell) : isClash s c =
    decide (c.station = s.engine.station ∧ (c.kind = .state ∨ c.kind = .derived ∨ c.kind = .notice)) := by
  rw [Bool.eq_iff_iff, decide_eq_true_iff]
  simp [isClash, or_assoc]

section Good

variable {p : Port} {raw : RawCell} {s : State}

theorem receiveCell_good (hup : (s.port p).line = .up) (hgood : goodCheck raw = true) :
    receiveCell p raw s = receiveGood p (Cell.ofRaw raw) s := by
  unfold receiveCell; rw [hup, hgood]; rfl

theorem exec_cell_fill (free : s.resetLine = false) (hup : (s.port p).line = .up) (hgood : goodCheck raw = true)
    (hk : (Cell.ofRaw raw).kindCode = 0) :
    exec (.cellReceived p raw) s = .next (s.setPort p { s.port p with badRun := 0 }) := by
  rw [exec_cellReceived free, receiveCell_good hup hgood, receiveGood_fill p s (kind_eq_fill_iff.2 hk)]

/-- R121: a clash. -/
theorem exec_cell_clash (free : s.resetLine = false) (hup : (s.port p).line = .up) (hgood : goodCheck raw = true)
    (hk : (Cell.ofRaw raw).kind = .state ∨ (Cell.ofRaw raw).kind = .derived ∨ (Cell.ofRaw raw).kind = .notice)
    (hown : (Cell.ofRaw raw).station = s.engine.station) :
    exec (.cellReceived p raw) s = .next (clash p (s.setPort p (acceptedAt (s.port p)))) := by
  have hfill : (Cell.ofRaw raw).kind ≠ .fill := by
    rcases hk with h | h | h <;> rw [h] <;> decide
  have hclash : isClash s (Cell.ofRaw raw) = true := by rw [isClash_eq]; exact decide_eq_true ⟨hown, hk⟩
  rw [exec_cellReceived free, receiveCell_good hup hgood, receiveGood_accepted p s hfill, if_pos hclash]

/-- R120: every other cell but FILL is handled by its kind. -/
theorem exec_cell_handled (free : s.resetLine = false) (hup : (s.port p).line = .up) (hgood : goodCheck raw = true)
    (hfill : (Cell.ofRaw raw).kind ≠ .fill)
    (hclash : ¬((Cell.ofRaw raw).station = s.engine.station ∧ ((Cell.ofRaw raw).kind = .state ∨
      (Cell.ofRaw raw).kind = .derived ∨ (Cell.ofRaw raw).kind = .notice))) :
    exec (.cellReceived p raw) s =
      .next (handleKind p (Cell.ofRaw raw) (s.setPort p (acceptedAt (s.port p)))) := by
  have hno : ¬isClash s (Cell.ofRaw raw) = true := by rw [isClash_eq, decide_eq_true_iff]; exact hclash
  rw [exec_cellReceived free, receiveCell_good hup hgood, receiveGood_accepted p s hfill, if_neg hno]

/-- R120: a cell of another station than the part's own. -/
theorem exec_cell_of_other (free : s.resetLine = false) (hup : (s.port p).line = .up) (hgood : goodCheck raw = true)
    (hcode : (Cell.ofRaw raw).kindCode ≠ 0) (hother : (Cell.ofRaw raw).station ≠ s.engine.station) :
    exec (.cellReceived p raw) s =
      .next (handleKind p (Cell.ofRaw raw) (s.setPort p (acceptedAt (s.port p)))) :=
  exec_cell_handled free hup hgood (mt kind_eq_fill_iff.1 hcode) fun h => hother h.1

/-- R120: a cell of a kind that never clashes. -/
theorem exec_cell_of_kind {k : Kind} (free : s.resetLine = false) (hup : (s.port p).line = .up)
    (hgood : goodCheck raw = true) (hk : (Cell.ofRaw raw).kind = k) (hkinds : k ∈ [.cycle, .request, .response, .unknown]) :
    exec (.cellReceived p raw) s =
      .next (handleKind p (Cell.ofRaw raw) (s.setPort p (acceptedAt (s.port p)))) := by
  subst hk
  refine exec_cell_handled free hup hgood (fun h => ?_) fun h => ?_
  · rw [h] at hkinds; revert hkinds; decide
  · obtain ⟨-, h | h | h⟩ := h <;> (rw [h] at hkinds; revert hkinds; decide)

end Good

/-! ### Handling by kind and port -/

section Handling

variable {c : Cell} (s : State)

theorem handleKind_cycle_trunk (h : c.kind = .cycle) : handleKind .trunk c s = takeCycleCell c s := by
  unfold handleKind; rw [h]

theorem handleKind_cycle_field (h : c.kind = .cycle) : handleKind .field c s = misplace .field s := by
  unfold handleKind; rw [h]

theorem handleKind_sampled (p : Port) (h : c.kind = .state ∨ c.kind = .derived) :
    handleKind p c s = passage p c (offerToTaps p c s) := by
  unfold handleKind; rcases h with h | h <;> rw [h]

theorem handleKind_notice_trunk (h : c.kind = .notice) : handleKind .trunk c s = misplace .trunk s := by
  unfold handleKind; rw [h]

theorem handleKind_notice_field (h : c.kind = .notice) : handleKind .field c s = passage .field c s := by
  unfold handleKind; rw [h]

theorem handleKind_request_trunk (h : c.kind = .request) : handleKind .trunk c s = takeRequestCell c s := by
  unfold handleKind; rw [h]

theorem handleKind_request_field (h : c.kind = .request) : handleKind .field c s = misplace .field s := by
  unfold handleKind; rw [h]

theorem handleKind_response_trunk (h : c.kind = .response) : handleKind .trunk c s = misplace .trunk s := by
  unfold handleKind; rw [h]

theorem handleKind_response_field (h : c.kind = .response) : handleKind .field c s = takeFieldResponse c s := by
  unfold handleKind; rw [h]

theorem handleKind_unknown (p : Port) (h : c.kind = .unknown) :
    handleKind p c s = s.onPort p.other (placeForward c) := by
  unfold handleKind; rw [h]

end Handling

/-! ### The cells that are discarded -/

/-- R124: the part after a misplaced cell. -/
def misplacedAt (p : Port) (s : State) : State :=
  s.setPort p { acceptedAt (s.port p) with counters := { (acceptedAt (s.port p)).counters with
    misplaced := (s.port p).counters.misplaced + 1 } }

theorem misplace_accepted (p : Port) (s : State) :
    misplace p (s.setPort p (acceptedAt (s.port p))) = misplacedAt p s := by
  rw [misplace, onPort_setPort]; rfl

theorem passage_of_255 {p : Port} {c : Cell} (s : State) (h : c.station = 255) : passage p c s = misplace p s := by
  rw [passage, dif_neg (by rw [h]; decide)]

theorem takeFieldResponse_of_255 {c : Cell} (s : State) (h : c.station = 255) :
    takeFieldResponse c s = misplace .field s := by
  rw [takeFieldResponse, passage_of_255 s h, ite_self]

/-- R6, R18: a tap that does not want a cell keeps its record and makes no report. -/
theorem offeredRecord_of_unwanted {p : Port} {c : Cell} {e : TapEntry} {r : TapRecord} (h : wantsCell p c e r = false) :
    offeredRecord p c e r = r := by
  rw [offeredRecord, h]; rfl

theorem offeredReport_of_unwanted {p : Port} {c : Cell} {e : TapEntry} {r : TapRecord} (t : TapNo)
    (h : wantsCell p c e r = false) : offeredReport p c e r t = none := by
  rw [offeredReport, offeredRecord_of_unwanted h, tapReport, if_pos (by simp)]

/-- R6, R10: a cell that no tap wants passes the tap unit by. -/
theorem offerToTaps_of_unwanted {p : Port} {c : Cell} {s : State}
    (h : ∀ t, wantsCell p c (s.tap.entries.get t) (s.tap.records.get t) = false) : offerToTaps p c s = s := by
  have hrecords : (Tab.ofFn fun t => offeredRecord p c (s.tap.entries.get t) (s.tap.records.get t)) = s.tap.records :=
    tab_ext fun t => by rw [get_ofFn, offeredRecord_of_unwanted (h t)]
  have hreports : (indices 192).filterMap
      (fun t => offeredReport p c (s.tap.entries.get t) (s.tap.records.get t) t) = [] :=
    List.filterMap_eq_nil_iff.2 fun t _ => offeredReport_of_unwanted t (h t)
  have hany : (indices 192).any (fun t => wantsCell p c (s.tap.entries.get t) (s.tap.records.get t)) = false :=
    List.any_eq_false.2 fun t _ => by rw [h t]; decide
  simp only [offerToTaps, hrecords, hreports, hany, reportTaps, List.append_nil, List.isEmpty_nil, if_true, ite_self,
    if_false, Bool.false_eq_true]

/-- Settles O10: a FILL cell is told by its kind, a clash by kind and station, and each misplaced cell comes to the one
discard, by its kind or at passage. -/
theorem clashesAndMisplacedCellsAreDiscarded : Obligations.ClashesAndMisplacedCellsAreDiscarded := by
  refine fun p raw s free hup hgood => ⟨exec_cell_fill free hup hgood, fun hk hown => ?clash, fun hwhere => ?misplaced⟩
  case clash =>
    rw [exec_cell_clash free hup hgood (hk.imp kind_of_kindCode (.imp kind_of_kindCode kind_of_kindCode)) hown, clash,
      onPort_setPort, setPort_indicate]
    rfl
  case misplaced =>
    refine Eq.trans ?_ (congrArg Host.Outcome.next (misplace_accepted p s))
    generalize hu : s.setPort p (acceptedAt (s.port p)) = u
    have htap : u.tap = s.tap := by rw [← hu, setPort_tap]
    rcases hwhere with ⟨rfl, hk | hk | ⟨hk, h255⟩⟩ | ⟨rfl, ⟨hk, hother⟩ | hk⟩ | ⟨rfl, hk, h255, hother⟩ |
      ⟨hk, h255, hother, htaps⟩
    · rw [exec_cell_of_kind free hup hgood (kind_of_kindCode hk) (by decide), hu,
        handleKind_cycle_field u (kind_of_kindCode hk)]
    · rw [exec_cell_of_kind free hup hgood (kind_of_kindCode hk) (by decide), hu,
        handleKind_request_field u (kind_of_kindCode hk)]
    · rw [exec_cell_of_kind free hup hgood (kind_of_kindCode hk) (by decide), hu,
        handleKind_response_field u (kind_of_kindCode hk), takeFieldResponse_of_255 u h255]
    · rw [exec_cell_of_other free hup hgood (by rw [hk]; decide) hother, hu,
        handleKind_notice_trunk u (kind_of_kindCode hk)]
    · rw [exec_cell_of_kind free hup hgood (kind_of_kindCode hk) (by decide), hu,
        handleKind_response_trunk u (kind_of_kindCode hk)]
    · rw [exec_cell_of_other free hup hgood (by rw [hk]; decide) (h255 ▸ hother.symm), hu,
        handleKind_notice_field u (kind_of_kindCode hk), passage_of_255 u h255]
    · have hunwanted : offerToTaps p (Cell.ofRaw raw) u = u := offerToTaps_of_unwanted fun t => by
        have hne : ((s.tap.entries.get t).station == (Cell.ofRaw raw).station) = false := by
          rw [h255]; exact beq_false_of_ne (htaps t)
        simp only [htap, wantsCell, hne, Bool.and_false, Bool.false_and]
      have hcode : (Cell.ofRaw raw).kindCode ≠ 0 := by rcases hk with hk | hk <;> rw [hk] <;> decide
      rw [exec_cell_of_other free hup hgood hcode (h255 ▸ hother.symm), hu,
        handleKind_sampled u p (hk.imp kind_of_kindCode kind_of_kindCode), hunwanted, passage_of_255 u h255]

end Sys2Proof.Machine

/-! PROOFS. The ports: passage by the policy table, sampling on the way, requests and CYCLE cells (chapter 7, R122 to R127,
R132; chapter 1.3, chapter 6.3, chapter 9.2). -/

namespace Sys2Proof.Machine

/-! ### Passage -/

/-- R126: the policy blocks a cell in the direction it passes in. -/
theorem blocks_iff (e : PolicyEntry) (p : Port) :
    blocks e p = true ↔ (p = .field ∧ e.upBlock = true) ∨ (p = .trunk ∧ e.downBlock = true) := by
  cases p <;> simp [blocks]

/-- R126, R131: a port that has counted a blocked cell. -/
def blockedAt (ps : PortState) : PortState :=
  { ps with counters := { ps.counters with blocked := ps.counters.blocked + 1 } }

/-- R126, R127: passage of a cell that arrived on a port, which stands as `ps`. -/
def passed (p : Port) (c : Cell) (policy : PolicyEntry) (ps : PortState) (s : State) : State :=
  if (p = .field ∧ policy.upBlock = true) ∨ (p = .trunk ∧ policy.downBlock = true) then s.setPort p (blockedAt ps)
  else (s.setPort p ps).setPort p.other (forwardedTo c (s.port p.other))

theorem passage_eq {p : Port} {c : Cell} (s : State) (ps : PortState) (h : c.station.toNat < 255) :
    passage p c (s.setPort p ps) = passed p c (s.bank.active.policy.get ⟨c.station.toNat, h⟩) ps s := by
  simp only [passage, dif_pos h, setPort_bank, passed, ← blocks_iff]
  split
  · rw [onPort_setPort]; rfl
  · rw [onPort_eq, port_setPort_other, placeForward_eq]

theorem forward_eq {p : Port} (c : Cell) (s : State) (ps : PortState) :
    (s.setPort p ps).onPort p.other (placeForward c) =
      (s.setPort p ps).setPort p.other (forwardedTo c (s.port p.other)) := by
  rw [onPort_eq, port_setPort_other, placeForward_eq]

theorem station_ne_255 {c : Cell} (h : c.station.toNat < 255) : c.station ≠ 255 := by
  intro h255
  rw [h255] at h
  exact absurd h (by decide)

/-- Settles O11: every kind that passes is handed to passage with the port as it has accepted the cell. -/
theorem passageFollowsThePolicyTable : Obligations.PassageFollowsThePolicyTable := by
  refine fun p raw s free hup hgood => ⟨fun hstation => ⟨fun hpass => ?passes, fun hp hk => ?response⟩, fun hk => ?unknown⟩
  case passes =>
    refine Eq.trans ?_ (congrArg Host.Outcome.next (passage_eq s (acceptedAt (s.port p)) hstation))
    obtain ⟨rfl, hk, hother⟩ | ⟨rfl, hk, hother⟩ := hpass
    · rw [exec_cell_of_other free hup hgood (by rw [hk]; decide) hother, handleKind_notice_field _ (kind_of_kindCode hk)]
    · rw [exec_cell_of_other free hup hgood (by rw [hk]; decide) hother, handleKind_request_trunk _ (kind_of_kindCode hk),
        takeRequestCell, if_neg (by simpa using hother), if_neg (by simpa using station_ne_255 hstation)]
  case response =>
    subst hp
    rw [exec_cell_of_kind free hup hgood (kind_of_kindCode hk) (by decide),
      handleKind_response_field _ (kind_of_kindCode hk), takeFieldResponse, misplace_accepted, passage_eq s _ hstation]
    rfl
  case unknown =>
    have hkind := (kind_of_kindCode rfl).trans (ofCode_unknown hk)
    rw [exec_cell_of_kind free hup hgood hkind (by decide), handleKind_unknown _ p hkind, forward_eq]

/-! ### Sampling -/

/-- R173: a line's value bit by its place in the sixteen bytes. -/
theorem lineValue_ofRaw (raw : RawCell) (i : BitVec 5) :
    lineValue (Cell.ofRaw raw) i = raw.getLsbD (8 * (15 - (7 - i.toNat / 8)) + i.toNat % 8) := by
  have hi := i.isLt
  have hplace : 8 * (15 - (7 - i.toNat / 8)) + i.toNat % 8 = 32 + (32 + i.toNat) := by omega
  have h64 : 32 + i.toNat < 64 := by omega
  rw [hplace, lineValue, Cell.ofRaw, BitVec.getLsbD_extractLsb', BitVec.getLsbD_extractLsb']
  simp [hi, h64]

/-- R173: a line's trust bit by its place in the sixteen bytes. -/
theorem lineTrust_ofRaw (raw : RawCell) (i : BitVec 5) :
    lineTrust (Cell.ofRaw raw) i = raw.getLsbD (8 * (15 - (11 - i.toNat / 8)) + i.toNat % 8) := by
  have hi := i.isLt
  have hplace : 8 * (15 - (11 - i.toNat / 8)) + i.toNat % 8 = 32 + i.toNat := by omega
  have h64 : i.toNat < 64 := by omega
  rw [hplace, lineTrust, Cell.ofRaw, BitVec.getLsbD_extractLsb', BitVec.getLsbD_extractLsb']
  simp [hi, h64]

theorem wantsCell_iff {p : Port} {c : Cell} {e : TapEntry} {r : TapRecord} : wantsCell p c e r = true ↔
    e.enabled = true ∧ e.side = p ∧ e.station = c.station ∧ e.slot = c.slot ∧ r.spacing = 0 := by
  simp [wantsCell, and_assoc]

theorem inWindow_iff (stamp count : Word16) : inWindow stamp count = true ↔ stamp = count ∨ stamp = count - 1 := by
  simp [inWindow]

/-- R18: a sample is a value transition under R12 when it moves the qualified value of a tap in LIVE or SUSPECT. -/
theorem sampleTransitions_iff (e : TapEntry) (raw trusted : Bool) (r : TapRecord) :
    sampleTransitions e raw trusted r = true ↔
      r.qualified ≠ (takeSample e raw trusted r).qualified ∧ (r.cond = .live ∨ r.cond = .suspect) := by
  have hrun : runAfter raw (sampled e r) = runAfter raw r := rfl
  simp only [sampleTransitions, Bool.and_eq_true, Bool.not_eq_true', adopts_eq_false_iff, transitions_iff]
  cases trusted with
  | false => simp [distrust, sampled]
  | true =>
    by_cases hc : r.cond = .live ∨ r.cond = .suspect
    · rw [takeSample_qualified e raw hc]
      by_cases heq : raw = r.qualified
      · subst heq
        have hsame := qualify_of_eq (e := e) (raw := r.qualified) (r := sampled e r) rfl
        rw [hsame]
        simp [sampled]
      · by_cases hq : e.qualify ≤ runAfter raw r
        · rw [qualify_of_le (r := sampled e r) heq (hrun ▸ hq)]
          simp [hc, hq, heq, Ne.symm heq]
        · rw [qualify_of_lt (r := sampled e r) heq (hrun ▸ not_le.1 hq)]
          simp [hq, sampled]
    · simp [hc]

/-- The reports of the taps over the whole table come in ascending tap number. -/
theorem pairwise_tap_filterMap {f : TapNo → Option TapReport} (h : ∀ t r, f t = some r → r.tap = t) :
    (((indices 192).filterMap f).map (·.tap)).Pairwise (· < ·) := by
  rw [List.pairwise_map, List.pairwise_filterMap]
  refine (indices_sorted 192).imp fun {a b} hab x hx y hy => ?_
  rw [h a x hx, h b y hy]
  exact hab

/-- Where each tap's report names the tap, the reports are told by their taps. -/
theorem mem_reports_iff {f : TapNo → Option TapReport} (h : ∀ t r, f t = some r → r.tap = t) (r : TapReport) :
    r ∈ (indices 192).filterMap f ↔ f r.tap = some r := by
  simp only [List.mem_filterMap, mem_indices, true_and]
  exact ⟨fun ⟨t, ht⟩ => h t r ht ▸ ht, fun hr => ⟨_, hr⟩⟩

theorem tapReport_eq_some {t : TapNo} {before after : TapRecord} {b : Bool} {r : TapReport} :
    tapReport t before after b = some r ↔ r = ⟨t, tapFace before, tapFace after, b⟩ ∧ tapFace before ≠ tapFace after := by
  unfold tapReport
  by_cases h : tapFace before = tapFace after
  · simp [h]
  · simp only [beq_eq_false_iff_ne.2 h, Bool.false_eq_true, if_false, Option.some.injEq, ne_eq, h, not_false_eq_true,
      and_true]
    exact eq_comm

theorem tapReport_tap {t : TapNo} {before after : TapRecord} {b : Bool} {r : TapReport}
    (h : tapReport t before after b = some r) : r.tap = t := by
  rw [(tapReport_eq_some.1 h).1]

theorem offeredReport_tap {p : Port} {c : Cell} {e : TapEntry} {r : TapRecord} {t : TapNo} {x : TapReport}
    (h : offeredReport p c e r t = some x) : x.tap = t := tapReport_tap h

/-- R18: the report of a tap to which a cell is offered, with its transition mark. -/
theorem offeredReport_eq_some {p : Port} {c : Cell} {e : TapEntry} {r : TapRecord} {t : TapNo} {x y : TapFace} {b : Bool} :
    offeredReport p c e r t = some ⟨t, x, y, b⟩ ↔
      x = tapFace r ∧ y = tapFace (offeredRecord p c e r) ∧ x ≠ y ∧
        (b = true ↔ x.value ≠ y.value ∧ (x.cond = .live ∨ x.cond = .suspect)) := by
  have hmark : (wantsCell p c e r && sampleTransitions e (rawValue e c) (lineTrust c e.line) r) = true ↔
      (tapFace r).value ≠ (tapFace (offeredRecord p c e r)).value ∧
        ((tapFace r).cond = .live ∨ (tapFace r).cond = .suspect) := by
    unfold offeredRecord
    by_cases hw : wantsCell p c e r = true
    · rw [if_pos hw, hw, Bool.true_and, sampleTransitions_iff]
      rfl
    · simp [hw]
  rw [offeredReport, tapReport_eq_some, TapReport.mk.injEq]
  constructor
  · rintro ⟨⟨-, rfl, rfl, rfl⟩, hne⟩
    exact ⟨rfl, rfl, hne, hmark⟩
  · rintro ⟨rfl, rfl, hne, hb⟩
    exact ⟨⟨rfl, rfl, rfl, Bool.eq_iff_iff.2 (hb.trans hmark.symm)⟩, hne⟩

/-- R6: the records of the taps after a cell in the stamp window. -/
def offeredRecords (p : Port) (c : Cell) (u : TapUnit) : Tab 192 TapRecord :=
  Tab.ofFn fun t => offeredRecord p c (u.entries.get t) (u.records.get t)

/-- R18: the reports of the taps after a cell in the stamp window. -/
def offeredReports (p : Port) (c : Cell) (u : TapUnit) : List TapReport :=
  (indices 192).filterMap fun t => offeredReport p c (u.entries.get t) (u.records.get t) t

/-- R6, R10, R19: a cell in the stamp window, the rest of the part set apart from the port it arrived on. -/
theorem offerToTaps_inWindow {p : Port} {c : Cell} (s : State) (ps : PortState)
    (h : inWindow c.stamp s.cycle.count = true) :
    offerToTaps p c (s.setPort p ps) = State.setPort { s with
      tap := { s.tap with records := offeredRecords p c s.tap },
      xc := { s.xc with
        reports := s.xc.reports ++ offeredReports p c s.tap,
        unseen := if offeredReports p c s.tap = [] then s.xc.unseen else (offeredReports p c s.tap).length },
      notice := { s.notice with tapReports := s.notice.tapReports ++ offeredReports p c s.tap } } p ps := by
  have hunseen : (if (offeredReports p c s.tap).isEmpty then s.xc.unseen else (offeredReports p c s.tap).length) =
      if offeredReports p c s.tap = [] then s.xc.unseen else (offeredReports p c s.tap).length := by
    simp only [List.isEmpty_iff]
  rw [← hunseen]
  simp only [offerToTaps, setPort_cycle, if_pos h]
  cases p <;> rfl

/-- R131: a port that has counted a late cell. -/
def lateAt (ps : PortState) : PortState :=
  { ps with counters := { ps.counters with lateCells := ps.counters.lateCells + 1 } }

theorem offerToTaps_late {p : Port} {c : Cell} (s : State) (ps : PortState)
    (h : ¬inWindow c.stamp s.cycle.count = true)
    (hw : ∃ t, wantsCell p c (s.tap.entries.get t) (s.tap.records.get t) = true) :
    offerToTaps p c (s.setPort p ps) = s.setPort p (lateAt ps) := by
  have hany : (indices 192).any (fun t => wantsCell p c (s.tap.entries.get t) (s.tap.records.get t)) = true := by
    obtain ⟨t, ht⟩ := hw
    exact List.any_eq_true.2 ⟨t, mem_indices t, ht⟩
  simp only [offerToTaps, setPort_cycle, setPort_tap, if_neg h, if_pos hany, onPort_setPort]
  rfl

/-- Settles O12: the cell goes to passage from the state in which the taps have sampled it or passed it by. -/
theorem stateCellsAreSampledAndPassed : Obligations.StateCellsAreSampledAndPassed := by
  intro p raw s free hup hgood c hk hother hstation policy wanted passedOf
  have hexec : exec (.cellReceived p raw) s =
      .next (passage p c (offerToTaps p c (s.setPort p (acceptedAt (s.port p))))) := by
    have hcode : c.kindCode ≠ 0 := by rcases hk with hk | hk <;> rw [hk] <;> decide
    rw [exec_cell_of_other free hup hgood hcode hother,
      handleKind_sampled _ p (hk.imp kind_of_kindCode kind_of_kindCode)]
  have hwanted : ∀ t, wanted t ↔ wantsCell p c (s.tap.entries.get t) (s.tap.records.get t) = true :=
    fun t => wantsCell_iff.symm
  have hpassed : ∀ u ps, u.bank = s.bank → u.port p.other = s.port p.other →
      passage p c (u.setPort p ps) = passedOf ps u := by
    intro u ps hbank hport
    rw [passage_eq u ps hstation, passed, hbank, hport]
    rfl
  refine ⟨fun hstamp => ⟨offeredRecords p c s.tap, offeredReports p c s.tap, ?_, fun t hw => ?_, fun t hw => ?_,
    fun t x y b => ?_, ?_⟩, fun hcount hbefore => ⟨fun hw => ?_, fun hw => ?_⟩⟩
  · rw [hexec, offerToTaps_inWindow s _ ((inWindow_iff ..).2 hstamp)]
    exact congrArg Host.Outcome.next (hpassed _ _ rfl (by cases p <;> rfl))
  · rw [offeredRecords, get_ofFn, offeredRecord_of_unwanted (by rw [← Bool.not_eq_true, ← hwanted]; exact hw)]
  · rw [offeredRecords, get_ofFn, offeredRecord, if_pos ((hwanted t).1 hw), ← lineValue_ofRaw, ← lineTrust_ofRaw]
    rfl
  · rw [offeredReports, mem_reports_iff fun _ _ => offeredReport_tap, offeredReport_eq_some, offeredRecords, get_ofFn]
    rfl
  · exact pairwise_tap_filterMap fun _ _ => offeredReport_tap
  · have hlate : ¬inWindow c.stamp s.cycle.count = true := by rw [inWindow_iff]; exact not_or.2 ⟨hcount, hbefore⟩
    rw [hexec, offerToTaps_late s _ hlate (hw.imp fun t => (hwanted t).1), hpassed _ _ rfl rfl]
    rfl
  · have hunwanted : ∀ t, wantsCell p c (s.tap.entries.get t) (s.tap.records.get t) = false := fun t => by
      rw [← Bool.not_eq_true, ← hwanted]
      exact fun ht => hw ⟨t, ht⟩
    rw [hexec, offerToTaps_of_unwanted (by simpa only [setPort_tap] using hunwanted), hpassed _ _ rfl rfl]

end Sys2Proof.Machine

/-! PROOFS. The ports: CYCLE cells and requests from the trunk, and the one disposition of every accepted cell (chapter 6.3,
R105, R108, R109; chapter 9.2, R158, R159; chapter 7.6, R132). -/

namespace Sys2Proof.Machine

/-! ### CYCLE cells -/

/-- R105: a stamp that is not the next count, once the count is established. -/
abbrev IsSkew (n : Word16) (s : State) : Prop := s.cycle.established = true ∧ n ≠ s.cycle.count + 1

theorem skewTest_eq (n : Word16) (s : State) : skewTest n s = { s with
    cycle := { s.cycle with skewCount := if IsSkew n s then s.cycle.skewCount + 1 else s.cycle.skewCount },
    engine := { s.engine with
      indicators := if IsSkew n s then s.engine.indicators ||| 0x020 else s.engine.indicators } } := by
  have htest : (s.cycle.established && n != s.cycle.count + 1) = true ↔ IsSkew n s := by simp
  by_cases h : IsSkew n s
  · rw [skewTest, if_pos (htest.2 h), if_pos h, if_pos h]; rfl
  · rw [skewTest, if_neg (mt htest.1 h), if_neg h, if_neg h]

/-- R105, R108: everything that a CYCLE cell taken as a cycle start does. -/
theorem followCycleCell_eq (c : Cell) (s : State) : followCycleCell c s = { s with
    cycle := { s.cycle with
      count := c.stamp, state := .following, prescaleCount := s.cycle.divide, periodCount := s.cycle.period,
      missed := 0, established := true,
      skewCount := if IsSkew c.stamp s then s.cycle.skewCount + 1 else s.cycle.skewCount },
    bank := { s.bank with inbox := s.bank.inbox ++ [c.stamp] },
    field := cyclePlacedFor c s.field,
    engine := { s.engine with
      indicators := if IsSkew c.stamp s then s.engine.indicators ||| 0x020 else s.engine.indicators } } := by
  rw [← placeCycle_eq, followCycleCell, skewTest_eq]; rfl

theorem takeCycleCell_follows {c : Cell} {s : State} (h : s.cycle.state ≠ .originating) :
    takeCycleCell c s = followCycleCell c s := by
  unfold takeCycleCell
  split
  · rfl
  · rfl
  · next ho => exact absurd ho h

theorem takeCycleCell_conflicts {c : Cell} {s : State} (h : s.cycle.state = .originating) :
    takeCycleCell c s = cycleConflict s := by
  unfold takeCycleCell; rw [h]

/-- Settles O14: the cycle state selects the outcome. -/
theorem trunkCycleCellsAreFollowedOrConflict : Obligations.TrunkCycleCellsAreFollowedOrConflict := by
  refine fun raw s free hup hgood hk => ⟨fun hstate => ?follows, fun hstate => ?conflicts⟩
  all_goals rw [exec_cell_of_kind (p := .trunk) free hup hgood (kind_of_kindCode hk) (by decide),
    handleKind_cycle_trunk _ (kind_of_kindCode hk)]
  case follows => rw [takeCycleCell_follows (by exact hstate), followCycleCell_eq]; rfl
  case conflicts => rw [takeCycleCell_conflicts (by exact hstate)]; rfl

/-! ### Requests -/

theorem requestOf_ofRaw (raw : RawCell) (n : Word16) : requestOf (Cell.ofRaw raw) n =
    ⟨(Cell.ofRaw raw).slot, (Cell.ofRaw raw).sequence, raw.extractLsb' 88 8, raw.extractLsb' 32 56, n⟩ := by
  have hop : (raw.extractLsb' 32 64).extractLsb' 56 8 = raw.extractLsb' 88 8 := by
    ext k hk
    simp [show 56 + k < 64 by omega, ← Nat.add_assoc]
  have hargs : (raw.extractLsb' 32 64).extractLsb' 0 56 = raw.extractLsb' 32 56 := by
    ext k hk
    simp [show k < 64 by omega]
  simp only [requestOf, Cell.ofRaw, hop, hargs]

/-- R159: the engine with a request record queued, or counted as dropped. -/
def engineAsked (r : Request) (e : Engine) : Engine :=
  if e.queue.length < 4 then { e with queue := e.queue ++ [r] } else { e with requestDrops := e.requestDrops + 1 }

theorem queueRequest_eq (r : Request) (s : State) :
    queueRequest r s = { s with engine := engineAsked r s.engine } := by
  unfold queueRequest engineAsked
  split <;> rfl

theorem takeRequestCell_own {c : Cell} {s : State} (h : c.station = s.engine.station) :
    takeRequestCell c s = { s with engine := engineAsked (requestOf c s.cycle.count) s.engine } := by
  rw [takeRequestCell, if_pos (by simpa using h), queueRequest_eq]

theorem takeRequestCell_broadcast {c : Cell} {s : State} (h : c.station = 255) (hown : s.engine.station ≠ 255) :
    takeRequestCell c s = { s with
      engine := engineAsked (requestOf c s.cycle.count) s.engine, field := forwardedTo c s.field } := by
  have hother : ¬(c.station == s.engine.station) = true := by simpa [h] using hown.symm
  rw [takeRequestCell, if_neg hother, if_pos (by simpa using h), queueRequest_eq, onPort_eq, placeForward_eq]
  rfl

/-- Settles O15: the station of the REQUEST selects the outcome. -/
theorem requestsAreQueuedOrDropped : Obligations.RequestsAreQueuedOrDropped := by
  refine fun raw s free hup hgood hk => ⟨fun hown => ?own, fun h255 hother => ?broadcast⟩
  all_goals
    rw [← requestOf_ofRaw, exec_cell_of_kind (p := .trunk) free hup hgood (kind_of_kindCode hk) (by decide),
      handleKind_request_trunk _ (kind_of_kindCode hk)]
  case own => rw [takeRequestCell_own (by exact hown)]; rfl
  case broadcast => rw [takeRequestCell_broadcast h255 (by exact hother)]; rfl

/-! ### Dispositions -/

/-- R131, R132: the counts in which the dispositions of the cells that arrive on a port show: at that port, at the other
one, at the request queue and at cycle timing. -/
structure Tally where
  received  : Word32
  refused   : Word32
  passed    : Word32
  requested : Word32
  timed     : Word32

def tally (p : Port) (t : State) : Tally where
  received  := (t.port p).counters.received
  refused   := (t.port p).counters.clashes + (t.port p).counters.misplaced + (t.port p).counters.blocked
  passed    := BitVec.ofNat 32 (t.port p.other).forward.length + (t.port p.other).counters.forwardDrops
    + (t.port p.other).counters.discardedDown
  requested := BitVec.ofNat 32 t.engine.queue.length + t.engine.requestDrops
  timed     := BitVec.ofNat 32 t.bank.inbox.length + t.cycle.conflictCount

namespace Tally

def refuse (x : Tally) : Tally := { x with refused := x.refused + 1 }

def pass (x : Tally) : Tally := { x with passed := x.passed + 1 }

def request (x : Tally) : Tally := { x with requested := x.requested + 1 }

/-- R132: one disposition, of the three that are not cycle timing's. -/
def OneMore (x y : Tally) : Prop := y = x.refuse ∨ y = x.pass ∨ y = x.request

theorem OneMore.sum {x y : Tally} (h : OneMore x y) : y.received = x.received ∧
    y.refused + y.passed + y.requested = x.refused + x.passed + x.requested + 1 ∧ y.timed = x.timed := by
  obtain rfl | rfl | rfl := h
  · exact ⟨rfl, by simp only [refuse]; ac_rfl, rfl⟩
  · exact ⟨rfl, by simp only [pass]; ac_rfl, rfl⟩
  · exact ⟨rfl, by simp only [request]; ac_rfl, rfl⟩

end Tally

section Tallies

variable (p : Port) (c : Cell) (s : State)

theorem tally_accepted : tally p (s.setPort p (acceptedAt (s.port p))) =
    { tally p s with received := (tally p s).received + 1 } := by
  cases p <;> rfl

theorem tally_misplace : tally p (misplace p s) = (tally p s).refuse := by
  have hsum : ∀ a b d : Word32, a + (b + 1) + d = a + b + d + 1 := fun a b d => by ac_rfl
  simp only [Tally.refuse, tally, ← hsum]
  cases p <;> rfl

theorem tally_clash : tally p (clash p s) = (tally p s).refuse := by
  have hsum : ∀ a b d : Word32, a + 1 + b + d = a + b + d + 1 := fun a b d => by ac_rfl
  simp only [Tally.refuse, tally, ← hsum]
  cases p <;> rfl

theorem tally_blocked :
    tally p (s.onPort p (countOn fun k => { k with blocked := k.blocked + 1 })) = (tally p s).refuse := by
  simp only [Tally.refuse, tally, add_assoc]
  cases p <;> rfl

/-- R119, R126: a forwarded cell waits, is dropped, or is discarded at a DOWN port. -/
theorem tally_forwardedTo (ps : PortState) :
    BitVec.ofNat 32 (forwardedTo c ps).forward.length + (forwardedTo c ps).counters.forwardDrops
      + (forwardedTo c ps).counters.discardedDown =
    BitVec.ofNat 32 ps.forward.length + ps.counters.forwardDrops + ps.counters.discardedDown + 1 := by
  unfold forwardedTo
  split
  · exact (add_assoc _ _ _).symm
  · split
    · simp only [List.length_append, List.length_singleton, BitVec.ofNat_add]
      ac_rfl
    · dsimp only
      ac_rfl

theorem tally_forward : tally p (s.onPort p.other (placeForward c)) = (tally p s).pass := by
  simp only [Tally.pass, tally, ← tally_forwardedTo c, ← placeForward_eq]
  cases p <;> rfl

theorem tally_passage : Tally.OneMore (tally p s) (tally p (passage p c s)) := by
  unfold passage
  split
  · split
    · exact .inl (tally_blocked p s)
    · exact .inr (.inl (tally_forward p c s))
  · exact .inl (tally_misplace p s)

theorem tally_offerToTaps : tally p (offerToTaps p c s) = tally p s := by
  unfold offerToTaps
  dsimp only
  split
  · cases p <;> rfl
  · split
    · cases p <;> rfl
    · rfl

/-- R159: a request is queued or counted as dropped. -/
theorem requested_engineAsked (r : Request) (e : Engine) :
    BitVec.ofNat 32 (engineAsked r e).queue.length + (engineAsked r e).requestDrops =
    BitVec.ofNat 32 e.queue.length + e.requestDrops + 1 := by
  unfold engineAsked
  split
  · simp only [List.length_append, List.length_singleton, BitVec.ofNat_add]
    ac_rfl
  · exact (add_assoc _ _ _).symm

theorem tally_queueRequest (r : Request) : tally p (queueRequest r s) = (tally p s).request := by
  simp only [queueRequest_eq, Tally.request, tally, ← requested_engineAsked r]
  cases p <;> rfl

theorem tally_takeRequestCell (h : c.station = 255 → s.engine.station = 255) :
    Tally.OneMore (tally .trunk s) (tally .trunk (takeRequestCell c s)) := by
  unfold takeRequestCell
  split
  · exact .inr (.inr (tally_queueRequest ..))
  · next hown =>
    split
    · next h255 =>
      rw [beq_iff_eq] at h255
      exact absurd (by rw [h255, h h255]; rfl) hown
    · exact tally_passage .trunk c s

/-- R159: the broadcast is a request and a forwarded cell. -/
theorem tally_takeRequestCell_broadcast (h : c.station = 255) (hown : s.engine.station ≠ 255) :
    tally .trunk (takeRequestCell c s) = (tally .trunk s).request.pass := by
  have hother : ¬(c.station == s.engine.station) = true := by simpa [h] using hown.symm
  rw [takeRequestCell, if_neg hother, if_pos (by simpa using h), ← tally_queueRequest]
  exact tally_forward .trunk c _

/-- R132: but for FILL, cycle timing's cells and the broadcast, each kind has one disposition. -/
theorem tally_handleKind (hfill : c.kind ≠ .fill) (hcycle : p = .trunk → c.kind ≠ .cycle)
    (hbroadcast : p = .trunk → c.kind = .request → c.station = 255 → s.engine.station = 255) :
    Tally.OneMore (tally p s) (tally p (handleKind p c s)) := by
  have hsampled : ∀ p, (c.kind = .state ∨ c.kind = .derived) →
      Tally.OneMore (tally p s) (tally p (handleKind p c s)) := fun p h => by
    rw [handleKind_sampled s p h, ← tally_offerToTaps p c s]
    exact tally_passage ..
  cases hk : c.kind with
  | fill => exact absurd hk hfill
  | state => exact hsampled p (.inl hk)
  | derived => exact hsampled p (.inr hk)
  | unknown => rw [handleKind_unknown s p hk]; exact .inr (.inl (tally_forward p c s))
  | cycle =>
    cases p with
    | trunk => exact absurd hk (hcycle rfl)
    | field => rw [handleKind_cycle_field s hk]; exact .inl (tally_misplace ..)
  | notice =>
    cases p with
    | trunk => rw [handleKind_notice_trunk s hk]; exact .inl (tally_misplace ..)
    | field => rw [handleKind_notice_field s hk]; exact tally_passage ..
  | request =>
    cases p with
    | trunk => rw [handleKind_request_trunk s hk]; exact tally_takeRequestCell c s (hbroadcast rfl hk)
    | field => rw [handleKind_request_field s hk]; exact .inl (tally_misplace ..)
  | response =>
    cases p with
    | trunk => rw [handleKind_response_trunk s hk]; exact .inl (tally_misplace ..)
    | field =>
      rw [handleKind_response_field s hk, takeFieldResponse]
      split
      · exact .inl (tally_misplace ..)
      · exact tally_passage ..

/-- R132: a CYCLE cell is cycle timing's one disposition, as a cycle start or as a conflict. -/
theorem timed_takeCycleCell : let t := takeCycleCell c s
    BitVec.ofNat 32 t.bank.inbox.length + t.cycle.conflictCount =
        BitVec.ofNat 32 s.bank.inbox.length + s.cycle.conflictCount + 1 ∧
      t.trunk = s.trunk ∧ t.field.forward = s.field.forward ∧
      t.field.counters.forwardDrops = s.field.counters.forwardDrops ∧ t.engine.queue = s.engine.queue ∧
      t.engine.requestDrops = s.engine.requestDrops := by
  intro t
  by_cases h : s.cycle.state = .originating
  · have ht : t = cycleConflict s := takeCycleCell_conflicts h
    rw [ht]
    exact ⟨(add_assoc _ _ _).symm, rfl, rfl, rfl, rfl, rfl⟩
  · have ht : t = followCycleCell c s := takeCycleCell_follows h
    have hplaced : (cyclePlacedFor c s.field).forward = s.field.forward ∧
        (cyclePlacedFor c s.field).counters.forwardDrops = s.field.counters.forwardDrops := by
      unfold cyclePlacedFor
      split
      · exact ⟨rfl, rfl⟩
      · split <;> exact ⟨rfl, rfl⟩
    rw [ht, followCycleCell_eq]
    refine ⟨?_, rfl, hplaced.1, hplaced.2, rfl, rfl⟩
    simp only [List.length_append, List.length_singleton, BitVec.ofNat_add]
    ac_rfl

theorem kindCode_of_cycle (h : c.kind = .cycle) : c.kindCode = 1 := by
  revert h; unfold Cell.kind
  generalize c.kindCode = k
  revert k; decide

theorem kindCode_of_request (h : c.kind = .request) : c.kindCode = 5 := by
  revert h; unfold Cell.kind
  generalize c.kindCode = k
  revert k; decide

end Tallies

/-- Settles O16: acceptance counts the cell, and what follows it is one disposition, or two of a broadcast. -/
theorem everyAcceptedCellHasOneDisposition : Obligations.EveryAcceptedCellHasOneDisposition := by
  intro p raw s free hup hgood c refused queued passedTo requested timed cycle broadcast hk
  generalize hu : s.setPort p (acceptedAt (s.port p)) = u
  have haccept : tally p u = { tally p s with received := (tally p s).received + 1 } := hu ▸ tally_accepted p s
  have hreceived : ∀ t, (tally p t).received = (tally p u).received →
      (t.port p).counters.received = (s.port p).counters.received + 1 := fun t h => by
    rw [haccept] at h; exact h
  have ordinary : ∀ t, Tally.OneMore (tally p u) (tally p t) →
      (t.port p).counters.received = (s.port p).counters.received + 1 ∧
      refused t + passedTo t + requested t = refused s + passedTo s + requested s + 1 ∧ timed t = timed s := fun t h => by
    obtain ⟨hcount, hrest⟩ := h.sum
    rw [haccept] at hrest
    exact ⟨hreceived t hcount, hrest⟩
  by_cases hclash : c.station = s.engine.station ∧ (c.kind = .state ∨ c.kind = .derived ∨ c.kind = .notice)
  · have hone := ordinary (clash p u) (.inl (tally_clash p u))
    have hcode : c.kindCode ≠ 1 ∧ c.kindCode ≠ 5 := by
      constructor <;> intro h <;> have hkind := hclash.2 <;> rw [kind_of_kindCode h] at hkind <;>
        revert hkind <;> decide
    exact ⟨_, hu ▸ exec_cell_clash free hup hgood hclash.2 hclash.1, hone.1, fun h => absurd h.2 hcode.1,
      fun h => absurd h.2.1 hcode.2, fun _ _ => hone.2⟩
  have hexec : exec (.cellReceived p raw) s = .next (handleKind p c u) :=
    hu ▸ exec_cell_handled free hup hgood (mt kind_eq_fill_iff.1 hk) hclash
  by_cases hcycle : cycle
  · obtain ⟨rfl, hcode⟩ := hcycle
    obtain ⟨htimed, htrunk, hforward, hdrops, hqueue, hrequests⟩ := timed_takeCycleCell c u
    rw [← hu] at htimed htrunk hforward hdrops hqueue hrequests
    refine ⟨_, hexec.trans (by rw [handleKind_cycle_trunk u (kind_of_kindCode hcode), ← hu]), ?_,
      fun _ => ⟨htimed, ?_, ?_, ?_⟩, fun hb => ?_, fun hn => absurd ⟨rfl, hcode⟩ hn⟩
    · exact congrArg (·.counters.received) htrunk
    · have hcounts := congrArg (fun q : PortState => q.counters.clashes + q.counters.misplaced + q.counters.blocked) htrunk
      exact hcounts
    · exact congrArg₂ (fun (l : List Cell) (n : Word32) => BitVec.ofNat 32 l.length + n) hforward hdrops
    · exact congrArg₂ (fun (l : List Request) (n : Word32) => BitVec.ofNat 32 l.length + n) hqueue hrequests
    · exact absurd (hcode.symm.trans hb.2.1) (by decide)
  by_cases hbroadcast : broadcast
  · obtain ⟨rfl, hcode, h255, hother⟩ := hbroadcast
    have hcell := handleKind_request_trunk u (kind_of_kindCode hcode)
    have htally := tally_takeRequestCell_broadcast c u h255 (hu ▸ hother)
    rw [haccept, ← hcell] at htally
    exact ⟨_, hexec, congrArg Tally.received htally, fun h => absurd h hcycle, fun _ =>
      ⟨congrArg Tally.requested htally, congrArg Tally.passed htally, congrArg Tally.refused htally,
        congrArg Tally.timed htally⟩, fun _ hn => absurd ⟨rfl, hcode, h255, hother⟩ hn⟩
  · have hstation : s.engine.station = u.engine.station := by rw [← hu]; cases p <;> rfl
    have hone := ordinary _ (tally_handleKind p c u (mt kind_eq_fill_iff.1 hk)
      (fun hp hkind => hcycle ⟨hp, kindCode_of_cycle c hkind⟩)
      fun hp hkind h255 => by_contra fun hother => hbroadcast ⟨hp, kindCode_of_request c hkind, h255, hstation ▸ hother⟩)
    exact ⟨_, hexec, hone.1, fun h => absurd h hcycle, fun h => absurd h hbroadcast, fun _ _ => hone.2⟩

end Sys2Proof.Machine

/-! PROOFS. The arbiter of a port's transmit side (chapter 7.5, R118, R129, R130, R169). -/

namespace Sys2Proof.Machine

section Picks

variable {station : Byte} {ps : PortState}

theorem pick_down (h : ps.line = .down) :
    pick station ps = { ps with sending := some (makeFillCell station) } := by
  rw [pick, h]

theorem pick_up (h : ps.line = .up) : pick station ps = pickUp station ps := by
  rw [pick, h]

theorem pick_cycle {c : Cell} (hup : ps.line = .up) (h : ps.cyclePlace = some c) :
    pick station ps = { ps with cyclePlace := none, sending := some c, forwardRun := 0 } := by
  rw [pick_up hup]; simp only [pickUp, h]

/-- R130: the arbiter passes over a waiting FORWARD cell after seven in a row, for another queue's cell. -/
theorem passesOver_iff : passesOver ps = true ↔
    ps.forwardRun = 7 ∧ ¬(ps.response = [] ∧ ps.derived = [] ∧ ps.notice = []) := by
  simp only [not_and_or]
  simp [passesOver, or_assoc]

theorem pick_forward {c : Cell} {rest : List Cell} (hup : ps.line = .up) (hplace : ps.cyclePlace = none)
    (h : ps.forward = c :: rest)
    (hturn : ps.forwardRun < 7 ∨ (ps.response = [] ∧ ps.derived = [] ∧ ps.notice = [])) :
    pick station ps = { ps with forward := rest, sending := some c, forwardRun := min 7 (ps.forwardRun + 1) } := by
  have hover : ¬passesOver ps = true := fun ho => by
    obtain ⟨hrun, hother⟩ := passesOver_iff.1 ho
    exact hturn.elim (fun hlt => hlt.ne hrun) hother
  rw [pick_up hup]; simp only [pickUp, hplace, h, if_neg hover]

/-- R129, R130: the turn of the port's own queues. -/
theorem pick_own (hup : ps.line = .up) (hplace : ps.cyclePlace = none)
    (hturn : ps.forward = [] ∨
      ps.forwardRun = 7 ∧ ¬(ps.response = [] ∧ ps.derived = [] ∧ ps.notice = [])) :
    pick station ps = pickOwn station ps := by
  rw [pick_up hup]
  simp only [pickUp, hplace]
  split
  · rfl
  · next c rest hforward =>
    obtain hnone | ⟨hrun, hother⟩ := hturn
    · rw [hforward] at hnone; cases hnone
    · rw [if_pos (passesOver_iff.2 ⟨hrun, hother⟩)]

end Picks

/-- R169: where a pick leaves the response of a pending RESET-PART. -/
def pickedState (p : Port) (s : State) : EngineState :=
  match p with
  | .field => s.engine.state
  | .trunk => beginTransmission s.trunk.response (pick s.engine.station s.trunk).response (endTransmission s.engine.state)

/-- What a pick writes. -/
theorem transmitterPick_eq (p : Port) (s : State) : transmitterPick p s =
    { s.setPort p (pick s.engine.station (s.port p)) with engine := { s.engine with state := pickedState p s } } := by
  cases p <;> rfl

/-- R169: a pick leaves a running engine running. -/
theorem pickedState_running {s : State} (p : Port) (h : s.engine.state = .running) : pickedState p s = .running := by
  cases p
  · simp only [pickedState, h, endTransmission, beginTransmission]
  · exact h

theorem exec_transmitterPick {p : Port} {s : State} (free : s.resetLine = false) :
    exec (.transmitterPick p) s = .next (transmitterPick p s) :=
  congrArg Host.Outcome.next (unlessHeld_free free _)

/-- Settles O17: the line and the queues select the pick. -/
theorem arbiterPicksInOrderWithAFairShare : Obligations.ArbiterPicksInOrderWithAFairShare := by
  intro p s free ps fill becomes
  have picks : ∀ q, pick s.engine.station ps = q → becomes q := fun q hq =>
    ⟨_, exec_transmitterPick free, fun hquiet => by
      have hstate : pickedState p s = s.engine.state := by
        obtain rfl | hrun := hquiet
        · rfl
        · rw [pickedState_running p hrun, hrun]
      rw [transmitterPick_eq, hstate, ← hq]
      cases p <;> rfl, by
      rw [transmitterPick_eq, ← hq]
      cases p <;> rfl⟩
  have own : ∀ {q}, ps.line = .up → ps.cyclePlace = none → ps.forward = [] ∨ ps.forwardRun = 7 →
      ¬(ps.response = [] ∧ ps.derived = [] ∧ ps.notice = []) → pickOwn s.engine.station ps = q → becomes q :=
    fun hup hplace hturn hother hq => picks _ ((pick_own hup hplace (hturn.imp_right (⟨·, hother⟩))).trans hq)
  refine ⟨fun hdown => picks _ (pick_down hdown), fun hup => ⟨fun c h => picks _ (pick_cycle hup h),
    fun c rest hplace h hturn => picks _ (pick_forward hup hplace h hturn), fun hplace hturn => ⟨?response, ?derived,
    ?notice⟩, fun hplace hforward hresponse hderived hnotice => ?fill⟩, ?stages⟩
  case response =>
    intro c rest h
    refine own hup hplace hturn (fun hnone => List.cons_ne_nil c rest (h ▸ hnone.1)) ?_
    simp only [pickOwn, h]
  case derived =>
    intro c rest hresponse h
    refine own hup hplace hturn (fun hnone => List.cons_ne_nil c rest (h ▸ hnone.2.1)) ?_
    simp only [pickOwn, h, hresponse]
  case notice =>
    intro c rest hresponse hderived h
    refine own hup hplace hturn (fun hnone => List.cons_ne_nil c rest (h ▸ hnone.2.2)) ?_
    simp only [pickOwn, h, hresponse, hderived]
  case fill =>
    refine picks _ ((pick_own hup hplace (.inl hforward)).trans ?_)
    simp only [pickOwn, hresponse, hderived, hnotice]
    rfl
  case stages =>
    rintro rfl scope
    refine ⟨fun h => ⟨_, exec_transmitterPick free, ?_⟩, fun h => ⟨_, exec_transmitterPick free, ?_⟩,
      fun h => ⟨_, exec_transmitterPick free, ?_⟩⟩ <;> rw [transmitterPick_eq] <;> dsimp only [pickedState] <;>
      rw [h]
    case refine_1 => rfl
    case refine_2 => rfl
    case refine_3 =>
      have htest : (!s.trunk.response.isEmpty && (pick s.engine.station s.trunk).response.isEmpty) = true ↔
          s.trunk.response ≠ [] ∧ (pick s.engine.station s.trunk).response = [] := by simp
      simp only [endTransmission, beginTransmission, htest]
      split
      · next hsent => exact congrArg _ (if_pos hsent).symm
      · next hsent => exact congrArg _ (if_neg hsent).symm

end Sys2Proof.Machine

/-! PROOFS. The ports' invariant: no queue grows past its capacity, and a DOWN port holds nothing (chapter 7, R115, R116,
R119, R127, R130; chapter 9.2, R159). -/

namespace Sys2Proof.Machine

/-! ### One port -/

/-- A port stays in order, and gets no RESPONSE and no NOTICE cell where it had none. -/
structure PortStays (ps qs : PortState) : Prop where
  ok       : PortOk ps → PortOk qs
  response : ps.response = [] → qs.response = []
  notice   : ps.notice = [] → qs.notice = []

theorem PortStays.rfl {ps : PortState} : PortStays ps ps := ⟨id, id, id⟩

theorem PortStays.trans {ps qs rs : PortState} (h : PortStays ps qs) (k : PortStays qs rs) : PortStays ps rs :=
  ⟨k.ok ∘ h.ok, k.response ∘ h.response, k.notice ∘ h.notice⟩

section PortOperations

variable (c : Cell) (ps : PortState)

/-- R131: counters are under no bound. -/
theorem portStays_countOn (f : PortCounters → PortCounters) : PortStays ps (countOn f ps) := ⟨id, id, id⟩

theorem portStays_placeForward : PortStays ps (placeForward c ps) := by
  unfold placeForward
  split
  · exact portStays_countOn ..
  · next hup =>
    split
    · next hroom => exact ⟨fun h => by simp_all [PortOk], id, id⟩
    · exact portStays_countOn ..

theorem portStays_placeDerived : PortStays ps (placeDerived c ps) := by
  unfold placeDerived
  split
  · exact portStays_countOn ..
  · next hup =>
    split
    · next hroom => exact ⟨fun h => by simp_all [PortOk], id, id⟩
    · exact portStays_countOn ..

theorem portStays_placeCycle : PortStays ps (placeCycle c ps) := by
  unfold placeCycle
  split
  · exact portStays_countOn ..
  · next hup =>
    have hplaced : PortStays ps { ps with cyclePlace := some c } :=
      ⟨fun h => by simp_all [PortOk], id, id⟩
    split
    · exact hplaced
    · exact hplaced.trans (portStays_countOn ..)

/-- R127: the delivery side places a NOTICE cell where it finds room. -/
theorem portOk_placeNotice {ps : PortState} (h : PortOk ps) (hroom : ps.notice.length < 8) :
    PortOk (placeNotice c ps) := by
  unfold placeNotice
  split
  · exact h
  · simp_all [PortOk]

/-- R127, R160: the engine takes a request where the RESPONSE queue has room. -/
theorem portOk_placeResponse {ps : PortState} (h : PortOk ps) (hroom : ps.response.length < 4) :
    PortOk (placeResponse c ps) := by
  unfold placeResponse
  split
  · exact h
  · simp_all [PortOk]

theorem portStays_gainSignal : PortStays ps (gainSignal ps) := by
  unfold gainSignal
  split
  · exact .rfl
  · exact ⟨fun h => by simp_all [PortOk], id, id⟩

theorem portStays_acquire {ps : PortState} (good : Bool) (hdown : ps.line = .down) : PortStays ps (acquire good ps) := by
  unfold acquire
  split
  · split
    · split
      · exact ⟨fun h => by simp_all [PortOk], id, id⟩
      · exact ⟨fun h => by simp_all [PortOk], id, id⟩
    · exact .rfl
  · exact ⟨fun h => by simp_all [PortOk], id, id⟩

theorem portStays_heldPort : PortStays ps (heldPort ps) :=
  ⟨fun _ => by simp [PortOk, heldPort, emptied], fun _ => rfl, fun _ => rfl⟩

theorem portStays_portAfterReset (k : ResetCause) : PortStays ps (portAfterReset k ps) := by
  cases k with
  | powerOn | resetLine =>
    exact ⟨fun _ => by simp [PortOk, portAfterReset, restartedPort, State.resetPort], fun _ => rfl, fun _ => rfl⟩
  | full | runtime =>
    exact ⟨fun h => by simp_all [PortOk, portAfterReset, clearedPort], fun _ => rfl, fun _ => rfl⟩

/-- R129: a pick at an UP port takes cells away, and its forward run stops at 7. -/
theorem portStays_pickUp (station : Byte) {ps : PortState} (hup : ps.line = .up) : PortStays ps (pickUp station ps) := by
  have hown : PortStays ps (pickOwn station ps) := by
    unfold pickOwn
    split <;> exact ⟨fun h => by simp_all [PortOk]; try omega, by simp_all, by simp_all⟩
  unfold pickUp
  split
  · exact ⟨fun h => by simp_all [PortOk], id, id⟩
  · split
    · exact hown
    · split
      · exact hown
      · exact ⟨fun h => by simp_all [PortOk]; omega, id, id⟩

theorem portStays_pick (station : Byte) : PortStays ps (pick station ps) := by
  unfold pick
  split
  · exact ⟨id, id, id⟩
  · next hup => exact portStays_pickUp station hup

end PortOperations

/-! ### The part -/

/-- The ports' invariant is kept, by what a step does to each port and to the request queue. -/
structure PortsStay (s t : State) : Prop where
  trunk : PortOk s.trunk → PortOk t.trunk
  field : PortStays s.field t.field
  queue : s.engine.queue.length ≤ 4 → t.engine.queue.length ≤ 4

theorem PortsStay.rfl {s : State} : PortsStay s s := ⟨id, .rfl, id⟩

theorem PortsStay.trans {s t u : State} (h : PortsStay s t) (k : PortsStay t u) : PortsStay s u :=
  ⟨k.trunk ∘ h.trunk, h.field.trans k.field, k.queue ∘ h.queue⟩

theorem PortsStay.inv {s t : State} (h : PortsStay s t) (hs : PortsInv s) : PortsInv t := by
  obtain ⟨htrunk, hfield, hresponse, hnotice, hqueue⟩ := hs
  exact ⟨h.trunk htrunk, h.field.ok hfield, h.field.response hresponse, h.field.notice hnotice, h.queue hqueue⟩

theorem PortsStay.foldl {α : Type} {f : State → α → State} (h : ∀ s a, PortsStay s (f s a)) (l : List α) (s : State) :
    PortsStay s (l.foldl f s) := by
  induction l generalizing s with
  | nil => exact .rfl
  | cons a l ih => exact (h s a).trans (ih _)

section PartOperations

variable (p : Port) (c : Cell) (s : State)

theorem portsStay_setPort {s : State} {q : PortState} (h : PortStays (s.port p) q) : PortsStay s (s.setPort p q) := by
  cases p
  · exact ⟨h.ok, .rfl, id⟩
  · exact ⟨id, h, id⟩

theorem portsStay_onPort {f : PortState → PortState} (h : ∀ ps, PortStays ps (f ps)) : PortsStay s (s.onPort p f) :=
  portsStay_setPort p (h _)

theorem portsStay_counted (f : PortCounters → PortCounters) : PortsStay s (s.onPort p (countOn f)) :=
  portsStay_onPort p s fun ps => portStays_countOn ps f

theorem portsStay_indicate (i : Indicator) : PortsStay s (s.indicate i) := ⟨id, .rfl, id⟩

theorem portsStay_onCycle (f : CycleTiming → CycleTiming) : PortsStay s (s.onCycle f) := ⟨id, .rfl, id⟩

theorem portsStay_loseSignal : PortsStay s (loseSignal p s) := by
  cases h : (s.port p).line with
  | down =>
    rw [loseSignal_down h]
    exact portsStay_setPort p ⟨fun hok => by simp_all [PortOk], id, id⟩
  | up =>
    rw [loseSignal_up h]
    exact PortsStay.trans (t := linkLostAt p s) ⟨id, .rfl, id⟩
      (portsStay_setPort p ⟨fun _ => by simp [PortOk, wentDown], fun _ => rfl, fun _ => rfl⟩)

/-! ### Cells that arrive -/

theorem portsStay_passage : PortsStay s (passage p c s) := by
  unfold passage
  split
  · split
    · exact portsStay_counted ..
    · exact portsStay_onPort _ s (portStays_placeForward c)
  · exact portsStay_counted ..

theorem portsStay_offerToTaps : PortsStay s (offerToTaps p c s) := by
  unfold offerToTaps
  dsimp only
  split
  · exact ⟨id, .rfl, id⟩
  · split
    · exact portsStay_counted ..
    · exact .rfl

theorem portsStay_handOnCycleStart (n : Word16) : PortsStay s (handOnCycleStart n s) := ⟨id, .rfl, id⟩

theorem portsStay_takeCycleCell : PortsStay s (takeCycleCell c s) := by
  have hfollow : PortsStay s (followCycleCell c s) := by
    rw [followCycleCell_eq, ← placeCycle_eq]
    exact ⟨id, portStays_placeCycle c _, id⟩
  unfold takeCycleCell
  split
  · exact hfollow
  · exact hfollow
  · exact ⟨id, .rfl, id⟩

theorem portsStay_queueRequest (r : Request) : PortsStay s (queueRequest r s) := by
  unfold queueRequest
  split
  · next hroom =>
    refine ⟨id, .rfl, fun _ => ?_⟩
    have hroom : s.engine.queue.length < 4 := hroom
    simp only [List.length_append, List.length_singleton]
    omega
  · exact ⟨id, .rfl, id⟩

theorem portsStay_handleKind : PortsStay s (handleKind p c s) := by
  have hmisplace : ∀ q, PortsStay s (misplace q s) := fun q => portsStay_counted ..
  have hforward : ∀ q t, PortsStay t (t.onPort q (placeForward c)) := fun q t =>
    portsStay_onPort q t (portStays_placeForward c)
  have hsampled : PortsStay s (passage p c (offerToTaps p c s)) :=
    (portsStay_offerToTaps p c s).trans (portsStay_passage ..)
  unfold handleKind
  split
  · exact .rfl
  · exact portsStay_takeCycleCell ..
  · exact hmisplace _
  · exact hsampled
  · exact hsampled
  · exact hmisplace _
  · exact portsStay_passage ..
  · unfold takeRequestCell
    split
    · exact portsStay_queueRequest ..
    · split
      · exact (portsStay_queueRequest ..).trans (hforward ..)
      · exact portsStay_passage ..
  · exact hmisplace _
  · exact hmisplace _
  · unfold takeFieldResponse
    split
    · exact hmisplace _
    · exact portsStay_passage ..
  · exact hforward ..

theorem portsStay_receiveGood : PortsStay s (receiveGood p c s) := by
  by_cases hfill : c.kind = .fill
  · rw [receiveGood_fill p s hfill]
    exact portsStay_setPort p ⟨fun h => by simp_all [PortOk], id, id⟩
  · rw [receiveGood_accepted p s hfill]
    have haccepted : PortsStay s (s.setPort p (acceptedAt (s.port p))) :=
      portsStay_setPort p ⟨fun h => by simp_all [PortOk, acceptedAt], id, id⟩
    split
    · exact haccepted.trans ((portsStay_counted ..).trans (portsStay_indicate ..))
    · exact haccepted.trans (portsStay_handleKind ..)

theorem portsStay_receiveBad {s : State} (hup : (s.port p).line = .up) : PortsStay s (receiveBad p s) := by
  obtain hrun | hrun := Nat.lt_or_ge (s.port p).badRun 7
  · rw [receiveBad_counts hrun]
    exact portsStay_setPort p ⟨fun h => by simp_all [PortOk, checkErrorAt], id, id⟩
  · rw [receiveBad_eighth hrun]
    exact PortsStay.trans (t := linkLostAt p s) ⟨id, .rfl, id⟩
      (portsStay_setPort p ⟨fun _ => by simp [PortOk, wentDown], fun _ => rfl, fun _ => rfl⟩)

theorem portsStay_receiveCell (raw : RawCell) : PortsStay s (receiveCell p raw s) := by
  unfold receiveCell
  split
  · next hdown => exact portsStay_setPort p (portStays_acquire _ hdown)
  · next hup =>
    split
    · exact portsStay_receiveGood ..
    · exact portsStay_receiveBad p hup

/-! ### Cycle timing -/

theorem portsStay_placeOwnCycle (holdover : Bool) : PortsStay s (placeOwnCycle p holdover s) :=
  portsStay_onPort p s (portStays_placeCycle _)

theorem portsStay_holdoverStart : PortsStay s (holdoverStart s) :=
  (portsStay_handOnCycleStart ..).trans (portsStay_placeOwnCycle ..)

theorem portsStay_timerExpiry : PortsStay s (timerExpiry s) := by
  unfold timerExpiry
  refine (portsStay_onCycle s reloadTimer).trans ?_
  generalize s.onCycle reloadTimer = t
  dsimp only
  split
  · split
    · exact ((portsStay_onCycle ..).trans (portsStay_indicate ..)).trans (portsStay_holdoverStart ..)
    · split
      · exact portsStay_onCycle ..
      · exact .rfl
  · exact (portsStay_onCycle ..).trans (portsStay_holdoverStart ..)
  · exact ((portsStay_handOnCycleStart ..).trans (portsStay_placeOwnCycle ..)).trans (portsStay_placeOwnCycle ..)

theorem portsStay_clockTick : PortsStay s (clockTick s) := by
  unfold clockTick
  split
  · exact portsStay_onCycle ..
  · split
    · exact portsStay_onCycle ..
    · exact portsStay_timerExpiry s

/-! ### The notice unit and the publisher -/

theorem portsStay_sendNotice (again : Bool) (f : FlightRecord) {s : State} (hroom : noticeRoom s = true) :
    PortsStay s (sendNotice again f s) :=
  ⟨fun h => portOk_placeNotice _ h (of_decide_eq_true hroom), .rfl, id⟩

theorem portsStay_retryRecord (f : FlightRecord) : PortsStay s (retryRecord f s).2 := by
  unfold retryRecord
  split
  · split
    · split
      · next hroom => exact portsStay_sendNotice _ _ hroom
      · exact .rfl
    · exact ⟨id, .rfl, id⟩
  · exact .rfl

theorem portsStay_retryAll (l : List FlightRecord) : PortsStay s (retryAll l s).2 := by
  induction l generalizing s with
  | nil => exact .rfl
  | cons f l ih => exact (portsStay_retryRecord s f).trans (ih _)

theorem portsStay_emitNotice (n : Notice) {s : State} (hroom : noticeRoom s = true) : PortsStay s (emitNotice n s) :=
  ⟨fun h => portOk_placeNotice _ h (of_decide_eq_true hroom), .rfl, id⟩

theorem portsStay_emitUpTo (k : Nat) : PortsStay s (emitUpTo k s) := by
  induction k generalizing s with
  | zero => exact .rfl
  | succ k ih =>
    unfold emitUpTo
    split
    · exact .rfl
    · split
      · next htest =>
        rw [Bool.and_eq_true] at htest
        exact (portsStay_emitNotice _ htest.2).trans (ih _)
      · exact .rfl

theorem portsStay_deliveryCycle (rest : List CycleStart) : PortsStay s (deliveryCycle rest s) :=
  have hretried : PortsStay s (retries { s with delivery := { s.delivery with inbox := rest } }) :=
    PortsStay.trans (t := { s with delivery := { s.delivery with inbox := rest } }) ⟨id, .rfl, id⟩
      ((portsStay_retryAll ..).trans ⟨id, .rfl, id⟩)
  hretried.trans (portsStay_emitUpTo ..)

theorem portsStay_placeFor (d : Direction) : PortsStay s (placeFor d c s) := by
  have hport : ∀ (b : Bool) ps, PortStays ps (if b then placeDerived c ps else ps) := fun b ps => by
    split
    · exact portStays_placeDerived c ps
    · exact .rfl
  exact ⟨(hport _ _).ok, hport _ _, id⟩

theorem portsStay_groupCycle (n : Word16) (g : GroupNo) : PortsStay s (groupCycle n g s) := by
  unfold groupCycle
  dsimp only
  split
  · exact .rfl
  · split
    · exact PortsStay.trans (t := s.onGroup g groupLowered) ⟨id, .rfl, id⟩
        ((portsStay_placeFor ..).trans ⟨id, .rfl, id⟩)
    · exact ⟨id, .rfl, id⟩

theorem portsStay_publisherCycle (x : CycleStart) (rest : List CycleStart) :
    PortsStay s (publisherCycle x rest s) := by
  have hgroups : PortsStay s ((indices 4).foldl (fun s g => groupCycle x.count g s)
      { s with publisher := { s.publisher with inbox := rest } }) :=
    PortsStay.trans (t := { s with publisher := { s.publisher with inbox := rest } }) ⟨id, .rfl, id⟩
      (.foldl (fun s g => portsStay_groupCycle s x.count g) _ _)
  have hswap : ∀ w t, PortsStay t (publisherApplySwap w t) := fun _ _ => ⟨id, .rfl, id⟩
  unfold publisherCycle
  cases x.swap with
  | none => exact hgroups
  | some w => exact hgroups.trans (hswap ..)

/-! ### The statement -/

theorem Ran.ports {r : Request} {s t : State} (h : Ran r s t) :
    t.trunk = s.trunk ∧ t.field = s.field ∧ t.engine.queue = s.engine.queue := by
  cases h with
  | acknowledged l =>
    obtain ⟨u, d, he⟩ := ackAll_writes l 0 s
    rw [he]
    exact ⟨rfl, rfl, rfl⟩
  | _ => exact ⟨rfl, rfl, rfl⟩

theorem portsInv_resetPartAs (k : ResetCause) {s : State} (h : PortsInv s) : PortsInv (resetPartAs k s) :=
  PortsStay.inv (s := s) ⟨(portStays_portAfterReset s.trunk k).ok, portStays_portAfterReset s.field k,
    fun _ => Nat.zero_le _⟩ h

end PartOperations

theorem portsInv_work {c : Instr} {s t : State} (h : PortsInv s) (hwork : Work c s t) : PortsInv t := by
  cases hwork with
  | cell p raw => exact (portsStay_receiveCell p s raw).inv h
  | expiry => exact (portsStay_timerExpiry s).inv h
  | tick => exact (portsStay_clockTick s).inv h
  | tapCycle | xcReport | validation => exact h
  | @xcCycle _ _ x rest => cases hswap : x.swap <;> simp only [xcCycle, hswap] <;> exact h
  | @watchTap _ _ x rest => obtain ⟨u, i, he⟩ := noticeWrites_takeTapReport x rest s; rw [he]; exact h
  | @watchPoint _ _ x rest => obtain ⟨u, i, he⟩ := noticeWrites_takePointReport x rest s; rw [he]; exact h
  | @noticeCycle _ _ x rest => obtain ⟨u, i, he⟩ := noticeWrites_noticeCycle x rest s; rw [he]; exact h
  | @deliveryCycle _ _ x rest => exact (portsStay_deliveryCycle s rest).inv h
  | @publisherReport _ _ x rest =>
    unfold publisherTakeReport
    dsimp only
    split <;> exact h
  | @publisherCycle _ _ x rest => exact (portsStay_publisherCycle s x rest).inv h
  | @bankCycle _ _ n rest =>
    unfold bankCycle
    dsimp only
    split <;> exact h
  | pick p =>
    rw [transmitterPick_eq]
    exact PortsStay.inv (s := s) ((portsStay_setPort p (portStays_pick ..)).trans ⟨id, .rfl, fun hq => by simpa using hq⟩) h
  | @request _ _ t r a _ hr hran =>
    obtain ⟨htrunk, hfield, hqueue⟩ := hran.ports
    obtain ⟨htrunkOk, hfieldOk, hresponse, hnotice, hlength⟩ := h
    have hplaced := portOk_placeResponse (makeResponseCell t.engine.station r a.result a.data) htrunkOk hr.2.2.1
    have htail : s.engine.queue.tail.length ≤ 4 := by rw [List.length_tail]; omega
    simp only [PortsInv, respond, htrunk, hfield, hqueue]
    exact ⟨hplaced, hfieldOk, hresponse, hnotice, htail⟩

/-- Settles O55: every part of a step keeps each port in order. -/
theorem stepsKeepThePortsInOrder : Obligations.StepsKeepThePortsInOrder := by
  refine step_keeps (fun _ _ h => h) fun c s t h hexec => ?_
  cases event_of_exec hexec with
  | nothing => exact h
  | powerOn straps => exact portsInv_resetPartAs .powerOn (s := { s with straps := straps }) h
  | lineReleased straps =>
    exact portsInv_resetPartAs .resetLine (s := { s with straps := straps, resetLine := false }) h
  | lineHeld => exact PortsStay.inv ⟨(portStays_heldPort s.trunk).ok, portStays_heldPort s.field, id⟩ h
  | signalGained p => exact (portsStay_onPort p s portStays_gainSignal).inv h
  | signalLost p => exact (portsStay_loseSignal p s).inv h
  | reset k => exact portsInv_resetPartAs k h
  | work _ hwork => exact portsInv_work h hwork

end Sys2Proof.Machine

/-! PROOFS. What the ports and cycle timing write: the tap unit, the cross-connect, the notice unit and the publisher are
as they were, but for what a sampled cell brings (chapters 6 and 7). -/

namespace Sys2Proof.Machine

/-- Nothing is written but cycle timing, the ports, the bank unit and the engine. -/
def OuterWrites (s t : State) : Prop :=
  ∃ c p q b e, t = { s with cycle := c, trunk := p, field := q, bank := b, engine := e }

theorem OuterWrites.rfl {s : State} : OuterWrites s s := ⟨_, _, _, _, _, Eq.refl _⟩

theorem OuterWrites.trans {s t u : State} (h : OuterWrites s t) (k : OuterWrites t u) : OuterWrites s u := by
  obtain ⟨c, p, q, b, e, rfl⟩ := h
  obtain ⟨c', p', q', b', e', rfl⟩ := k
  exact ⟨c', p', q', b', e', Eq.refl _⟩

theorem OuterWrites.ite {s t u : State} {p : Prop} [Decidable p] (h : OuterWrites s t) (k : OuterWrites s u) :
    OuterWrites s (if p then t else u) := by split <;> assumption

section Outer

variable (p : Port) (c : Cell) (s : State)

theorem outerWrites_setPort (q : PortState) : OuterWrites s (s.setPort p q) := by
  cases p <;> exact ⟨_, _, _, _, _, rfl⟩

theorem outerWrites_onPort (f : PortState → PortState) : OuterWrites s (s.onPort p f) := outerWrites_setPort ..

theorem outerWrites_withEngine (e : Engine) : OuterWrites s { s with engine := e } := ⟨_, _, _, _, e, rfl⟩

theorem outerWrites_indicate (i : Indicator) : OuterWrites s (s.indicate i) := outerWrites_withEngine ..

theorem outerWrites_onCycle (f : CycleTiming → CycleTiming) : OuterWrites s (s.onCycle f) := ⟨_, _, _, _, _, rfl⟩

theorem outerWrites_handOnCycleStart (n : Word16) : OuterWrites s (handOnCycleStart n s) := ⟨_, _, _, _, _, rfl⟩

theorem outerWrites_linkLost : OuterWrites s (linkLostAt p s) := outerWrites_withEngine ..

/-! ### Cycle timing -/

theorem outerWrites_placeOwnCycle (holdover : Bool) : OuterWrites s (placeOwnCycle p holdover s) :=
  outerWrites_onPort ..

theorem outerWrites_holdoverStart : OuterWrites s (holdoverStart s) :=
  (outerWrites_handOnCycleStart ..).trans (outerWrites_placeOwnCycle ..)

theorem outerWrites_timerExpiry : OuterWrites s (timerExpiry s) := by
  unfold timerExpiry
  refine (outerWrites_onCycle s reloadTimer).trans ?_
  generalize s.onCycle reloadTimer = t
  dsimp only
  split
  · exact .ite (((outerWrites_onCycle ..).trans (outerWrites_indicate ..)).trans (outerWrites_holdoverStart _))
      (.ite (outerWrites_onCycle ..) .rfl)
  · exact (outerWrites_onCycle ..).trans (outerWrites_holdoverStart _)
  · exact ((outerWrites_handOnCycleStart ..).trans (outerWrites_placeOwnCycle ..)).trans (outerWrites_placeOwnCycle ..)

theorem outerWrites_clockTick : OuterWrites s (clockTick s) :=
  .ite (outerWrites_onCycle ..) (.ite (outerWrites_onCycle ..) (outerWrites_timerExpiry s))

theorem outerWrites_takeCycleCell : OuterWrites s (takeCycleCell c s) := by
  by_cases h : s.cycle.state = .originating
  · rw [takeCycleCell_conflicts h]
    exact (outerWrites_onCycle ..).trans (outerWrites_indicate ..)
  · rw [takeCycleCell_follows h, followCycleCell_eq]
    exact ⟨_, _, _, _, _, rfl⟩

/-! ### The ports -/

theorem outerWrites_loseSignal : OuterWrites s (loseSignal p s) := by
  cases h : (s.port p).line with
  | down => rw [loseSignal_down h]; exact outerWrites_setPort ..
  | up => rw [loseSignal_up h]; exact (outerWrites_linkLost p s).trans (outerWrites_setPort ..)

theorem outerWrites_misplace : OuterWrites s (misplace p s) := outerWrites_onPort ..

theorem outerWrites_passage : OuterWrites s (passage p c s) := by
  unfold passage
  split
  · exact .ite (outerWrites_onPort ..) (outerWrites_onPort ..)
  · exact outerWrites_misplace ..

theorem outerWrites_queueRequest (r : Request) : OuterWrites s (queueRequest r s) :=
  .ite (outerWrites_withEngine ..) (outerWrites_withEngine ..)

theorem outerWrites_takeRequestCell : OuterWrites s (takeRequestCell c s) :=
  .ite (outerWrites_queueRequest ..)
    (.ite ((outerWrites_queueRequest ..).trans (outerWrites_onPort ..)) (outerWrites_passage ..))

/-- R122, R124: only a STATE or DERIVED cell is offered to the taps. -/
theorem handleKind_writes : OuterWrites s (handleKind p c s) ∨ OuterWrites (offerToTaps p c s) (handleKind p c s) := by
  unfold handleKind
  split
  · exact .inl .rfl
  · exact .inl (outerWrites_takeCycleCell ..)
  · exact .inl (outerWrites_misplace ..)
  · exact .inr (outerWrites_passage ..)
  · exact .inr (outerWrites_passage ..)
  · exact .inl (outerWrites_misplace ..)
  · exact .inl (outerWrites_passage ..)
  · exact .inl (outerWrites_takeRequestCell ..)
  · exact .inl (outerWrites_misplace ..)
  · exact .inl (outerWrites_misplace ..)
  · exact .inl (.ite (outerWrites_misplace ..) (outerWrites_passage ..))
  · exact .inl (outerWrites_onPort ..)

/-- R116, R120: an arriving cell is offered to the taps, or does not reach the inner blocks. -/
theorem receiveCell_writes (raw : RawCell) : OuterWrites s (receiveCell p raw s) ∨
    ∃ t, OuterWrites s t ∧ OuterWrites (offerToTaps p (Cell.ofRaw raw) t) (receiveCell p raw s) := by
  cases hline : (s.port p).line with
  | down => rw [receiveCell_down hline]; exact .inl (outerWrites_setPort ..)
  | up =>
    cases hcheck : goodCheck raw with
    | false =>
      rw [receiveCell_bad hline hcheck]
      obtain hrun | hrun := Nat.lt_or_ge (s.port p).badRun 7
      · rw [receiveBad_counts hrun]; exact .inl (outerWrites_setPort ..)
      · rw [receiveBad_eighth hrun]; exact .inl ((outerWrites_linkLost p s).trans (outerWrites_setPort ..))
    | true =>
      rw [receiveCell_good hline hcheck]
      generalize Cell.ofRaw raw = c
      by_cases hfill : c.kind = .fill
      · rw [receiveGood_fill p s hfill]; exact .inl (outerWrites_setPort ..)
      · rw [receiveGood_accepted p s hfill]
        have haccepted := outerWrites_setPort p s (acceptedAt (s.port p))
        split
        · exact .inl (haccepted.trans ((outerWrites_onPort ..).trans (outerWrites_indicate ..)))
        · obtain h | h := handleKind_writes p c (s.setPort p (acceptedAt (s.port p)))
          · exact .inl (haccepted.trans h)
          · exact .inr ⟨_, haccepted, h⟩

theorem outerWrites_transmitterPick : OuterWrites s (transmitterPick p s) := by
  rw [transmitterPick_eq]
  exact (outerWrites_setPort ..).trans (outerWrites_withEngine ..)

end Outer

end Sys2Proof.Machine

/-! PROOFS. The taps' invariant: every tap entry that the part holds, or that is on its way to the tap unit, is in the
ranges of a write, and every tap's record fits its entry (chapter 1, R1, R2, R12, R15, R21; chapter 8.4, R141). -/

namespace Sys2Proof.Machine

/-! ### One tap -/

section Tap

variable {e : TapEntry} {r : TapRecord}

theorem tapOk_initialTap (h : TapEntryOk e) : TapOk e (initialTap e) := by
  obtain ⟨-, hq, -, hs, -⟩ := h
  exact ⟨hq, hs, Nat.zero_le _, fun _ => rfl⟩

/-- R9, R12: a sample starts the spacing anew, and the run of a differing value ends at the qualify count. -/
theorem tapOk_takeSample {raw trusted : Bool} (hentry : TapEntryOk e) (hon : e.enabled = true) (h : TapOk e r) :
    TapOk e (takeSample e raw trusted r) := by
  obtain ⟨-, hq, -, hs, -⟩ := hentry
  obtain ⟨hrun, -⟩ := h
  have hoff : ¬e.enabled = false := by simp [hon]
  have hspacing : e.spacing - 1 < e.spacing := by omega
  unfold takeSample
  split
  · split
    · exact ⟨hq, hspacing, Nat.zero_le _, fun hd => absurd hd hoff⟩
    · unfold qualify
      split
      · exact ⟨hq, hspacing, Nat.zero_le _, fun hd => absurd hd hoff⟩
      · next hdiffers =>
        split
        · exact ⟨hq, hspacing, Nat.zero_le _, fun hd => absurd hd hoff⟩
        · next hshort =>
          have hbelow : runAfter raw (sampled e r) < e.qualify := by
            have hne : raw ≠ (sampled e r).qualified := by simpa using hdiffers
            simpa [transitions, hne] using hshort
          exact ⟨hbelow, hspacing, Nat.zero_le _, fun hd => absurd hd hoff⟩
  · exact ⟨hq, hspacing, Nat.zero_le _, fun hd => absurd hd hoff⟩

theorem tapOk_offeredRecord {p : Port} {c : Cell} (hentry : TapEntryOk e) (h : TapOk e r) :
    TapOk e (offeredRecord p c e r) := by
  unfold offeredRecord
  split
  · next hwants =>
    have hon : e.enabled = true := by simp [wantsCell] at hwants; tauto
    exact tapOk_takeSample hentry hon h
  · exact h

/-- R15, R16: ageing. -/
theorem tapOk_tapCycle (hentry : TapEntryOk e) (h : TapOk e r) : TapOk e (tapCycle e r) := by
  obtain ⟨-, hq, -⟩ := hentry
  obtain ⟨hrun, hspacing, -⟩ := id h
  have hless : r.spacing - 1 < e.spacing := by omega
  unfold tapCycle
  split
  · next hon =>
    have hoff : ¬e.enabled = false := by simp [hon]
    split
    · exact ⟨hq, hless, min_le_left .., fun hd => absurd hd hoff⟩
    · exact ⟨hrun, hless, min_le_left .., fun hd => absurd hd hoff⟩
  · exact h

end Tap

/-! ### The tap unit and the bank unit -/

/-- The part of the invariant that speaks of the tap unit. -/
def TapUnitOk (u : TapUnit) : Prop :=
  (∀ c ∈ u.inbox, ∀ w, c.swap = some w → BankTapsOk w.bank) ∧ (∀ t, TapEntryOk (u.entries.get t)) ∧
    ∀ t, TapOk (u.entries.get t) (u.records.get t)

/-- The part of the invariant that speaks of the banks the part holds. -/
def BanksTapsOk (b : BankUnit) : Prop :=
  BankTapsOk b.active ∧ ∀ x, b.shadow = some x → BankTapsOk x

theorem tapsInv_iff (s : State) : TapsInv s ↔ BanksTapsOk s.bank ∧ TapUnitOk s.tap := by
  simp only [TapsInv, BanksTapsOk, TapUnitOk, and_assoc]

section Unit

variable {u : TapUnit} {c : CycleStart} {rest : List CycleStart}

theorem tapEntriesAfter_ok (h : TapUnitOk u) (hhead : u.inbox = c :: rest) (t : TapNo) :
    TapEntryOk ((tapEntriesAfter c u.entries).get t) := by
  obtain ⟨hinbox, hentries, -⟩ := h
  unfold tapEntriesAfter
  split
  · exact hentries t
  · next w hw => exact hinbox c (hhead ▸ List.mem_cons_self) w hw t

theorem tapAfter_ok (h : TapUnitOk u) (hhead : u.inbox = c :: rest) (t : TapNo) :
    TapOk ((tapEntriesAfter c u.entries).get t) (tapAfter c u.entries t (u.records.get t)) := by
  have hentry := tapEntriesAfter_ok h hhead t
  unfold tapAfter
  dsimp only
  split
  · next hkept =>
    rw [← hkept] at hentry ⊢
    exact tapOk_tapCycle hentry (h.2.2 t)
  · exact tapOk_initialTap hentry

/-- R15, R21: the taking of a cycle start. -/
theorem tapUnitOk_cycle {s : State} (h : TapUnitOk s.tap) (hhead : s.tap.inbox = c :: rest) :
    TapUnitOk (tapUnitCycle c rest s).tap := by
  refine ⟨fun x hx => h.1 x (hhead ▸ List.mem_cons_of_mem c hx), tapEntriesAfter_ok h hhead, fun t => ?_⟩
  show TapOk _ ((Tab.ofFn fun t => tapAfter c s.tap.entries t (s.tap.records.get t)).get t)
  rw [get_ofFn]
  exact tapAfter_ok h hhead t

/-- R6: a cell offered to the taps. -/
theorem tapUnitOk_offerToTaps (p : Port) (c : Cell) {s : State} (h : TapUnitOk s.tap) :
    TapUnitOk (offerToTaps p c s).tap := by
  obtain ⟨hinbox, hentries, hrecords⟩ := id h
  unfold offerToTaps
  dsimp only
  split
  · refine ⟨hinbox, hentries, fun t => ?_⟩
    show TapOk _ ((Tab.ofFn fun t => offeredRecord p c (s.tap.entries.get t) (s.tap.records.get t)).get t)
    rw [get_ofFn]
    exact tapOk_offeredRecord (hentries t) (hrecords t)
  · split
    · rw [onPort_eq, setPort_tap]; exact h
    · exact h

theorem tapUnitOk_reset {b : Bank} (h : BankTapsOk b) : TapUnitOk (resetTapUnit b) := by
  refine ⟨fun c hc => absurd hc List.not_mem_nil, h, fun t => ?_⟩
  show TapOk _ ((Tab.ofFn fun t => initialTap (b.taps.get t)).get t)
  rw [get_ofFn]
  exact tapOk_initialTap (h t)

theorem bankTapsOk_emptyBank : BankTapsOk emptyBank := fun t => by
  show TapEntryOk ((Tab.fill 192 emptyTapEntry).get t)
  rw [get_fill]
  unfold TapEntryOk
  decide

end Unit

section Bank

variable {b : BankUnit}

theorem BanksTapsOk.no_shadow {b' : BankUnit} (h : BanksTapsOk b) (hactive : b'.active = b.active)
    (hshadow : b'.shadow = none) : BanksTapsOk b' :=
  ⟨hactive ▸ h.1, fun x hx => by rw [hshadow] at hx; cases hx⟩

theorem banksTapsOk_bankNoSwap (n : Word16) (h : BanksTapsOk b) : BanksTapsOk (bankNoSwap n b) := by
  unfold bankNoSwap
  split
  · exact h
  · split
    · exact h.no_shadow rfl rfl
    · exact h
  · split <;> exact h
  · split <;> exact h

theorem banksTapsOk_completeValidation (station : Byte) (h : BanksTapsOk b) :
    BanksTapsOk (completeValidation station b) := by
  unfold completeValidation
  split
  · split
    · exact h
    · split <;> exact h
  · exact h

theorem banksTapsOk_reloadLease (o : Originator) (h : BanksTapsOk b) : BanksTapsOk (reloadLease o b) := by
  rw [reloadLease_eq]
  exact h

theorem banksTapsOk_reset (k : ResetCause) (h : BanksTapsOk b) : BanksTapsOk (resetBank k b) := by
  refine ⟨?_, fun x hx => by cases hx⟩
  cases k with
  | powerOn | resetLine | full => exact bankTapsOk_emptyBank
  | runtime => exact h.1

theorem banksTapsOk_ran {r : Request} {s t : State} (h : BanksTapsOk s.bank) (hran : Ran r s t) :
    BanksTapsOk t.bank := by
  cases hran with
  | acknowledged l =>
    obtain ⟨u, d, he⟩ := ackAll_writes l 0 s
    rw [he]
    exact h
  | opened => exact ⟨h.1, fun x hx => by cases hx; exact h.1⟩
  | written put hedit htaps =>
    refine ⟨h.1, fun x hx => ?_⟩
    obtain ⟨y, hy, rfl⟩ := Option.map_eq_some_iff.1 hx
    exact htaps y (h.2 y hy)
  | aborted => exact h.no_shadow rfl rfl
  | read | cleared | resetPending | configured | renewed | committed | forced | gated | deliverySet => exact h

end Bank

/-! ### The statement -/

theorem SameHold.banksTapsOk {s t : State} (hst : SameHold s t) (h : BanksTapsOk s.bank) : BanksTapsOk t.bank := by
  rw [hst.bank]; exact h

theorem OuterWrites.tap {s t : State} (h : OuterWrites s t) : t.tap = s.tap := by
  obtain ⟨c, p, q, b, e, rfl⟩ := h
  rfl

theorem tapUnitOk_receiveCell (p : Port) (raw : RawCell) {s : State} (h : TapUnitOk s.tap) :
    TapUnitOk (receiveCell p raw s).tap := by
  obtain hw | ⟨t, hst, hw⟩ := receiveCell_writes p s raw <;> rw [hw.tap]
  · exact h
  · exact tapUnitOk_offerToTaps p _ (hst.tap ▸ h)

theorem Ran.tap {r : Request} {s t : State} (h : Ran r s t) : t.tap = s.tap := by
  cases h with
  | acknowledged l =>
    obtain ⟨u, d, he⟩ := ackAll_writes l 0 s
    rw [he]
  | _ => rfl

theorem tapsInv_resetPartAs (k : ResetCause) {s : State} (h : TapsInv s) : TapsInv (resetPartAs k s) :=
  have hbank := banksTapsOk_reset k ((tapsInv_iff s).1 h).1
  (tapsInv_iff _).2 ⟨hbank, tapUnitOk_reset hbank.1⟩

/-- R149, R150: the bank unit hands the tap unit a bank that it held itself. -/
theorem tapsInv_bankCycle (n : Word16) (rest : List Word16) {s : State} (hbank : BanksTapsOk s.bank)
    (htap : TapUnitOk s.tap) : TapsInv (bankCycle n rest s) := by
  have hinbox : BanksTapsOk { s.bank with inbox := rest } := hbank
  have hpassed : ∀ x : CycleStart, (∀ w, x.swap = some w → BankTapsOk w.bank) →
      TapUnitOk { s.tap with inbox := s.tap.inbox ++ [x] } := fun x hx => by
    refine ⟨fun c hc => ?_, htap.2⟩
    obtain hc | hc := List.mem_append.1 hc
    · exact htap.1 c hc
    · rw [List.mem_singleton.1 hc]; exact hx
  rw [tapsInv_iff]
  obtain he | ⟨shadow, harmed, hshadow, he⟩ := bankCycle_cases n rest s <;> rw [he]
  · exact ⟨banksTapsOk_bankNoSwap n hinbox, hpassed ⟨n, none⟩ fun w hw => by cases hw⟩
  · exact ⟨⟨hbank.2 shadow hshadow, fun x hx => by cases hx⟩,
      hpassed ⟨n, some ⟨shadow, s.bank.generation + 1⟩⟩ fun w hw => by cases hw; exact hbank.2 shadow hshadow⟩

theorem tapsInv_work {c : Instr} {s t : State} (h : TapsInv s) (hwork : Work c s t) : TapsInv t := by
  obtain ⟨hbank, htap⟩ := (tapsInv_iff s).1 h
  have outer : ∀ {t}, SameHold s t → OuterWrites s t → TapsInv t := fun hold hw =>
    (tapsInv_iff _).2 ⟨hold.banksTapsOk hbank, hw.tap ▸ htap⟩
  cases hwork with
  | cell p raw =>
    exact (tapsInv_iff _).2 ⟨(sameHold_receiveCell p raw s).banksTapsOk hbank, tapUnitOk_receiveCell p raw htap⟩
  | expiry => exact outer (sameHold_timerExpiry s) (outerWrites_timerExpiry s)
  | tick => exact outer (sameHold_clockTick s) (outerWrites_clockTick s)
  | tapCycle hhead => exact (tapsInv_iff _).2 ⟨hbank, tapUnitOk_cycle htap hhead⟩
  | xcReport => exact h
  | @xcCycle _ _ x rest => cases hswap : x.swap <;> simp only [xcCycle, hswap] <;> exact h
  | @watchTap _ _ x rest => obtain ⟨u, i, he⟩ := noticeWrites_takeTapReport x rest s; rw [he]; exact h
  | @watchPoint _ _ x rest => obtain ⟨u, i, he⟩ := noticeWrites_takePointReport x rest s; rw [he]; exact h
  | @noticeCycle _ _ x rest => obtain ⟨u, i, he⟩ := noticeWrites_noticeCycle x rest s; rw [he]; exact h
  | @deliveryCycle _ _ x rest => obtain ⟨u, d, p, i, he⟩ := deliveryWrites_deliveryCycle rest s; rw [he]; exact h
  | @publisherReport _ _ x rest => obtain ⟨u, p, q, he⟩ := publisherWrites_takeReport x rest s; rw [he]; exact h
  | @publisherCycle _ _ x rest => obtain ⟨u, p, q, he⟩ := publisherWrites_publisherCycle x rest s; rw [he]; exact h
  | @bankCycle _ _ n rest => exact tapsInv_bankCycle n rest hbank htap
  | validation => exact (tapsInv_iff _).2 ⟨banksTapsOk_completeValidation _ hbank, htap⟩
  | pick p => exact outer (steady_transmitterPick p s).sameHold (outerWrites_transmitterPick p s)
  | @request _ _ _ r a _ _ hran =>
    have htaken := banksTapsOk_ran (s := dequeued r s) (banksTapsOk_reloadLease r.originator hbank) hran
    exact (tapsInv_iff _).2 ⟨htaken, show TapUnitOk _ from hran.tap ▸ htap⟩

/-- Settles O56: samples and cycle starts keep each tap's record fitted to its entry, and the bank unit holds and hands
on no entry that a write would refuse. -/
theorem stepsKeepTheTapsInOrder : Obligations.StepsKeepTheTapsInOrder := by
  refine step_keeps (fun _ _ h => h) fun c s t h hexec => ?_
  cases event_of_exec hexec with
  | nothing | lineHeld => exact h
  | powerOn straps => exact tapsInv_resetPartAs .powerOn (s := { s with straps := straps }) h
  | lineReleased straps =>
    exact tapsInv_resetPartAs .resetLine (s := { s with straps := straps, resetLine := false }) h
  | signalGained p => cases p <;> exact h
  | signalLost p =>
    rw [tapsInv_iff, (outerWrites_loseSignal p s).tap, (steady_loseSignal p s).bank]
    exact (tapsInv_iff s).1 h
  | reset k => exact tapsInv_resetPartAs k h
  | work _ hwork => exact tapsInv_work h hwork

end Sys2Proof.Machine

/-! PROOFS. The points' invariant: a point's published value, quality, hold and condition agree, and the force table stays
within its capacity (chapter 2, R32 to R37, R40 to R45). -/

namespace Sys2Proof.Machine

/-! ### One point -/

/-- The part of a point's record that the force has no say in (R32, R34 to R37). -/
def PointCoreOk (e : BindEntry) (r : PointRecord) : Prop :=
  (r.cond = .holding ↔ 0 < r.hold) ∧ (r.cond = .failsafe → r.combined = e.failSafe) ∧
    (r.cond ≠ .failsafe → r.combined = r.lastGood) ∧ (e.sources = [] → r.cond = .failsafe)

section Point

variable {e : BindEntry} {f : Option ForceRecord} {r : PointRecord}

theorem PointOk.core (h : PointOk e f r) : PointCoreOk e r := h.2.2

/-- R33: a published point is in order when the rest of its record is. -/
theorem pointOk_withPublished (f : Option ForceRecord) (h : PointCoreOk e r) : PointOk e f (withPublished e f r) := by
  refine ⟨?_, ?_, h⟩
  · cases f with
    | some x => rfl
    | none => cases hc : r.cond <;> simp [withPublished, publishedValue, hc]
  · cases f <;> cases hc : r.cond <;> simp [withPublished, publishedQuality, hc]

theorem pointCoreOk_defined {v : Bool} {c : PointCond} (hc : c = .normal ∨ c = .degraded) (hs : e.sources ≠ []) :
    PointCoreOk e (applyDefined v c r) := by
  obtain rfl | rfl := hc <;> simp [PointCoreOk, applyDefined, hs]

theorem pointCoreOk_failsafe : PointCoreOk e (fallToFailsafe e r) := by
  simp [PointCoreOk, fallToFailsafe]

/-- R36: an undefined result. -/
theorem pointCoreOk_undefined (h : PointCoreOk e r) : PointCoreOk e (applyUndefined e r) := by
  have hfall : (r.cond = .normal ∨ r.cond = .degraded) → PointCoreOk e (if 0 < e.hold then
      { r with cond := .holding, combined := r.lastGood, hold := e.hold } else fallToFailsafe e r) := fun hc => by
    split
    · next hpos =>
      have hs : e.sources ≠ [] := fun hs => by
        have hfail := h.2.2.2 hs
        rw [hfail] at hc
        simp at hc
      simp [PointCoreOk, hpos, hs]
    · exact pointCoreOk_failsafe
  unfold applyUndefined
  split
  · next hc => exact hfall (.inl hc)
  · next hc => exact hfall (.inr hc)
  · exact h
  · exact h

/-- R29 to R32: a defined result has a source, and is NORMAL or DEGRADED. -/
theorem combine_defined {fn : Combine} {l : List (Option Bool)} {v : Bool} {c : PointCond}
    (h : combine fn l = some (v, c)) : (c = .normal ∨ c = .degraded) ∧ l ≠ [] := by
  have hfull : fullOrDegraded l = .normal ∨ fullOrDegraded l = .degraded := by
    unfold fullOrDegraded; split <;> simp
  have htwo : ∀ a b, voteTwo a b = some (v, c) → c = .degraded := fun a b h => by
    unfold voteTwo at h; split at h <;> simp_all
  cases fn with
  | follow =>
    simp only [combine, combineFollow] at h
    split at h
    · cases h; simp
    · cases h
  | any =>
    simp only [combine, combineAny] at h
    split at h
    · next hany => cases h; exact ⟨hfull, fun hl => by simp [hl] at hany⟩
    · cases h
  | all =>
    simp only [combine, combineAll] at h
    split at h
    · next hall => cases h; exact ⟨.inl rfl, fun hl => by simp [hl] at hall⟩
    · cases h
  | vote =>
    simp only [combine, combineVote] at h
    split at h
    · cases h; simp
    · exact ⟨.inr (htwo _ _ h), List.cons_ne_nil _ _⟩
    · exact ⟨.inr (htwo _ _ h), List.cons_ne_nil _ _⟩
    · exact ⟨.inr (htwo _ _ h), List.cons_ne_nil _ _⟩
    · cases h

theorem pointCoreOk_applyResult (s : State) (h : PointCoreOk e r) :
    PointCoreOk e (applyResult e (combineResult s e) r) := by
  unfold applyResult
  split
  · next v c hres =>
    obtain ⟨hc, hl⟩ := combine_defined hres
    exact pointCoreOk_defined hc (by simpa using hl)
  · exact pointCoreOk_undefined h

theorem pointCoreOk_applyAtExpiry (s : State) : PointCoreOk e (applyAtExpiry e (combineResult s e) r) := by
  unfold applyAtExpiry
  split
  · next v c hres =>
    obtain ⟨hc, hl⟩ := combine_defined hres
    exact pointCoreOk_defined hc (by simpa using hl)
  · exact pointCoreOk_failsafe

theorem pointOk_countChange {b : PointRecord} (h : PointOk e f r) : PointOk e f (countChange b r) := h

theorem pointOk_recomputed (s : State) (f : Option ForceRecord) (h : PointCoreOk e r) :
    PointOk e f (recomputed s e f r) :=
  pointOk_countChange (pointOk_withPublished f (pointCoreOk_applyResult s h))

theorem pointCoreOk_initialPoint (f : Option ForceRecord) : PointCoreOk e (initialPoint e f) := by
  simp [PointCoreOk, initialPoint, withPublished]

theorem pointOk_initialPoint (f : Option ForceRecord) : PointOk e f (initialPoint e f) :=
  pointOk_withPublished f (by simp [PointCoreOk])

/-! ### Cycle starts -/

/-- R37: a hold that does not end stays above 0. -/
theorem pointCoreOk_holdLowered (h : PointCoreOk e r) (hends : holdEnds r = false) :
    PointCoreOk e (holdLowered r) := by
  unfold holdLowered
  split
  · next hc =>
    have hlong : ¬r.hold ≤ 1 := by simpa [holdEnds, hc] using hends
    obtain ⟨-, hcombined⟩ := h
    have hpos : 1 < r.hold := Nat.lt_of_not_le hlong
    exact ⟨⟨fun _ => Nat.sub_pos_of_lt hpos, fun _ => eq_of_beq hc⟩, hcombined⟩
  · exact h

/-- R33: what the force, the condition and the values say of a point does not change with its hold, nor with what is
left of the force's duration. -/
theorem pointOk_lowered (h : PointOk e f r) (hcore : PointCoreOk e (holdLowered r)) (lower : ForceRecord → Option Nat) :
    PointOk e (f.map fun x => { x with remaining := lower x }) (holdLowered r) := by
  obtain ⟨hpublished, hquality, -⟩ := h
  have hsame : (holdLowered r).published = r.published ∧ (holdLowered r).quality = r.quality ∧
      (holdLowered r).cond = r.cond ∧ (holdLowered r).lastGood = r.lastGood ∧
      (holdLowered r).combined = r.combined := by
    unfold holdLowered
    split <;> exact ⟨rfl, rfl, rfl, rfl, rfl⟩
  obtain ⟨h1, h2, h3, h4, h5⟩ := hsame
  refine ⟨?_, ?_, hcore⟩
  · rw [h1, h3, h4, h5, hpublished]
    cases f <;> rfl
  · rw [h2, h3, hquality, Option.map_eq_none_iff]

theorem pointOk_pointAfterWork (s : State) (h : PointOk e f r) :
    PointOk e (forceAfter f) (pointAfterWork s e f r) := by
  unfold pointAfterWork
  split
  · exact pointOk_countChange (pointOk_withPublished _ (pointCoreOk_applyAtExpiry s))
  · next hhold =>
    have hcore := pointCoreOk_holdLowered h.core (by simpa using hhold)
    split
    · exact pointOk_recomputed s _ hcore
    · next hforce =>
      rw [forceAfter, if_neg hforce]
      exact pointOk_lowered h hcore _

theorem pointOk_pointAfterSwap (s : State) {old new : BindEntry} (h : PointOk old f r) :
    PointOk new f (pointAfterSwap s old new f r) := by
  unfold pointAfterSwap
  split
  · next heq => exact pointOk_recomputed s f (heq ▸ h.core)
  · exact pointOk_withPublished f (pointCoreOk_applyResult s (pointCoreOk_initialPoint f))

end Point

/-! ### The force table -/

/-- R43: a duration that does not end leaves at least one cycle start more. -/
theorem forceAfter_lasts {f : Option ForceRecord} (h : ∀ x d, f = some x → x.remaining = some d → 1 ≤ d) :
    ∀ x d, forceAfter f = some x → x.remaining = some d → 1 ≤ d := by
  intro x d hx hd
  unfold forceAfter at hx
  split at hx
  · cases hx
  · next hends =>
    obtain ⟨y, rfl, rfl⟩ := Option.map_eq_some_iff.1 hx
    obtain ⟨k, hk, rfl⟩ := Option.map_eq_some_iff.1 hd
    have hlong : ¬k ≤ 1 := by simpa [forceEnds, hk] using hends
    omega

theorem isSome_of_forceAfter {f : Option ForceRecord} (h : (forceAfter f).isSome = true) : f.isSome = true := by
  unfold forceAfter at h
  split at h
  · cases h
  · simpa using h

/-- R43: a cycle start adds no force. -/
theorem forceCount_le {s t : State}
    (h : ∀ p, (t.xc.forces.get p).isSome = true → (s.xc.forces.get p).isSome = true) : forceCount t ≤ forceCount s :=
  (List.monotone_filter_right _ h).length_le

/-! ### The statement -/

/-- The invariant speaks of the bind entries, the forces and the points' records alone. -/
theorem PointsInv.congr {s t : State} (h : PointsInv s) (he : t.xc.entries = s.xc.entries)
    (hf : t.xc.forces = s.xc.forces) (hr : t.xc.records = s.xc.records) : PointsInv t := by
  unfold PointsInv forceCount at h ⊢
  rw [he, hf, hr]
  exact h

theorem pointsInv_xcTakeReport (x : TapReport) (rest : List TapReport) {s : State} (h : PointsInv s) :
    PointsInv (xcTakeReport x rest s) := by
  refine ⟨fun p => ?_, h.2⟩
  show PointOk _ _ ((Tab.ofFn (afterTapReport (foundAt rest s) x.tap)).get p)
  rw [get_ofFn]
  unfold afterTapReport
  dsimp only
  split
  · exact pointOk_recomputed _ _ (h.1 p).core
  · exact h.1 p

theorem pointsInv_xcCycleWork {s : State} (h : PointsInv s) : PointsInv (xcCycleWork s) := by
  obtain ⟨hpoints, hcount, hlasts⟩ := h
  have hforces : ∀ p, (xcCycleWork s).xc.forces.get p = forceAfter (s.xc.forces.get p) := fun p => get_ofFn _ p
  have hrecords : ∀ p, (xcCycleWork s).xc.records.get p =
      pointAfterWork s (s.xc.entries.get p) (s.xc.forces.get p) (s.xc.records.get p) := fun p => get_ofFn _ p
  refine ⟨fun p => ?_, (forceCount_le fun p hp => ?_).trans hcount, fun p => ?_⟩
  · rw [hforces, hrecords]
    exact pointOk_pointAfterWork s (hpoints p)
  · rw [hforces] at hp
    exact isSome_of_forceAfter hp
  · rw [hforces]
    exact forceAfter_lasts (hlasts p)

theorem pointsInv_xcApplySwap (binds : Tab 128 BindEntry) {s : State} (h : PointsInv s) :
    PointsInv (xcApplySwap binds s) := by
  refine ⟨fun p => ?_, h.2⟩
  have hrecords : (xcApplySwap binds s).xc.records.get p =
    pointAfterSwap s (s.xc.entries.get p) (binds.get p) (s.xc.forces.get p) (s.xc.records.get p) := get_ofFn _ p
  rw [hrecords]
  exact pointOk_pointAfterSwap s (h.1 p)

theorem pointsInv_xcCycle (x : CycleStart) (rest : List CycleStart) {s : State} (h : PointsInv s) :
    PointsInv (xcCycle x rest s) := by
  have hworked := pointsInv_xcCycleWork (s := { s with xc := { s.xc with inbox := rest, unseen := 0 } }) h
  unfold xcCycle
  dsimp only
  split
  · exact hworked
  · exact pointsInv_xcApplySwap _ hworked

/-- R40 to R42: a force set in a free record, in the point's own, or released. -/
theorem pointsInv_setForce (p : PointNo) (f : Option ForceRecord) {s : State} (h : PointsInv s)
    (hroom : f.isSome = true → (s.xc.forces.get p).isSome = true ∨ forceCount s < 16)
    (hlasts : ∀ x d, f = some x → x.remaining = some d → 1 ≤ d) : PointsInv (setForce p f s) := by
  obtain ⟨hpoints, hcount, hold⟩ := h
  refine ⟨fun q => ?_, ?_, fun q => ?_⟩
  · show PointOk _ ((s.xc.forces.set p f).get q) ((s.xc.records.set p _).get q)
    rw [get_set, get_set]
    split
    · next heq => subst heq; exact pointOk_recomputed s f (hpoints p).core
    · exact hpoints q
  · have hsum := forceCount_setForce p f s
    cases hf : f.isSome with
    | false => rw [hf, Bool.toNat_false] at hsum; omega
    | true =>
      obtain hp | hlt := hroom hf
      · rw [hf, hp] at hsum; omega
      · rw [hf, Bool.toNat_true] at hsum; omega
  · rw [setForce_forces, get_set]
    split
    · exact hlasts
    · exact hold q

theorem pointsInv_resetPartAs (k : ResetCause) (s : State) : PointsInv (resetPartAs k s) := by
  have hforces : ∀ p, (resetPartAs k s).xc.forces.get p = none := fun p => get_fill none p
  have hrecords : ∀ p, (resetPartAs k s).xc.records.get p = initialPoint ((resetPartAs k s).xc.entries.get p) none :=
    fun p => get_ofFn _ p
  refine ⟨fun p => ?_, ?_, fun p x d hx => ?_⟩
  · rw [hforces, hrecords]
    exact pointOk_initialPoint none
  · have hnone : forceCount (resetPartAs k s) = 0 := by
      simp only [forceCount, hforces, Option.isSome_none, List.filter_false, List.length_nil]
    omega
  · rw [hforces] at hx; cases hx

theorem OuterWrites.xc {s t : State} (h : OuterWrites s t) : t.xc = s.xc := by
  obtain ⟨c, p, q, b, e, rfl⟩ := h
  rfl

theorem PointsInv.outer {s t : State} (h : PointsInv s) (hw : OuterWrites s t) : PointsInv t :=
  h.congr (by rw [hw.xc]) (by rw [hw.xc]) (by rw [hw.xc])

theorem pointsInv_offerToTaps (p : Port) (c : Cell) {s : State} (h : PointsInv s) : PointsInv (offerToTaps p c s) := by
  unfold offerToTaps
  dsimp only
  split
  · exact h
  · split
    · exact h.outer (outerWrites_onPort ..)
    · exact h

theorem pointsInv_receiveCell (p : Port) (raw : RawCell) {s : State} (h : PointsInv s) :
    PointsInv (receiveCell p raw s) := by
  obtain hw | ⟨t, hst, hw⟩ := receiveCell_writes p s raw
  · exact h.outer hw
  · exact (pointsInv_offerToTaps p _ (h.outer hst)).outer hw

theorem pointsInv_ran {r : Request} {s t : State} (h : PointsInv s) (hran : Ran r s t) : PointsInv t := by
  cases hran with
  | forced p f hroom hlasts => exact pointsInv_setForce p f h hroom hlasts
  | acknowledged l =>
    obtain ⟨u, d, he⟩ := ackAll_writes l 0 s
    rw [he]
    exact h
  | read | cleared | resetPending | configured | opened | renewed | written | committed | aborted | gated
  | deliverySet => exact h

theorem pointsInv_work {c : Instr} {s t : State} (h : PointsInv s) (hwork : Work c s t) : PointsInv t := by
  cases hwork with
  | cell p raw => exact pointsInv_receiveCell p raw h
  | expiry => exact h.outer (outerWrites_timerExpiry s)
  | tick => exact h.outer (outerWrites_clockTick s)
  | pick p => exact h.outer (outerWrites_transmitterPick p s)
  | tapCycle | validation => exact h
  | @xcReport _ _ x rest => exact pointsInv_xcTakeReport x rest h
  | @xcCycle _ _ x rest => exact pointsInv_xcCycle x rest h
  | @watchTap _ _ x rest => obtain ⟨u, i, he⟩ := noticeWrites_takeTapReport x rest s; rw [he]; exact h
  | @watchPoint _ _ x rest => obtain ⟨u, i, he⟩ := noticeWrites_takePointReport x rest s; rw [he]; exact h
  | @noticeCycle _ _ x rest => obtain ⟨u, i, he⟩ := noticeWrites_noticeCycle x rest s; rw [he]; exact h
  | @deliveryCycle _ _ x rest => obtain ⟨u, d, p, i, he⟩ := deliveryWrites_deliveryCycle rest s; rw [he]; exact h
  | @publisherReport _ _ x rest => obtain ⟨u, p, q, he⟩ := publisherWrites_takeReport x rest s; rw [he]; exact h
  | @publisherCycle _ _ x rest => obtain ⟨u, p, q, he⟩ := publisherWrites_publisherCycle x rest s; rw [he]; exact h
  | @bankCycle _ _ n rest =>
    obtain he | ⟨shadow, -, -, he⟩ := bankCycle_cases n rest s <;> rw [he] <;> exact h
  | @request _ _ t r a _ _ hran =>
    have htaken : PointsInv (dequeued r s) := h
    have hdone : PointsInv t := pointsInv_ran htaken hran
    exact hdone

/-- Settles O57: every recomputation publishes by R33, and the force table takes a force only where it has room. -/
theorem stepsKeepThePointsInOrder : Obligations.StepsKeepThePointsInOrder := by
  refine step_keeps (fun _ _ h => h) fun c s t h hexec => ?_
  cases event_of_exec hexec with
  | nothing | lineHeld => exact h
  | powerOn straps => exact pointsInv_resetPartAs .powerOn _
  | lineReleased straps => exact pointsInv_resetPartAs .resetLine _
  | signalGained p => exact h.outer (outerWrites_onPort ..)
  | signalLost p => exact h.outer (outerWrites_loseSignal p s)
  | reset k => exact pointsInv_resetPartAs k s
  | work _ hwork => exact pointsInv_work h hwork

end Sys2Proof.Machine

/-! PROOFS. The raising side of the notice unit: reports offered to watches, occurrences, withdrawals, cycle starts
(chapter 3, R52 to R58, R62, R69). -/

namespace Sys2Proof.Machine

/-! ### Triggers and levels -/

theorem offLevel_iff (tr : Trigger) (v : Bool) : offLevel tr v = true ↔ OffItsLevel tr v := by
  cases tr <;> simp [offLevel, OffItsLevel]

theorem tapOccurs_iff (tr : Trigger) (r : TapReport) : tapOccurs tr r = true ↔
    (tr = .rise ∧ r.transition = true ∧ r.before.value = false ∧ r.after.value = true) ∨
    (tr = .fall ∧ r.transition = true ∧ r.before.value = true ∧ r.after.value = false) ∨
    (tr = .change ∧ r.transition = true) ∨ (tr = .condition ∧ r.before.cond ≠ r.after.cond) := by
  cases tr <;> simp [tapOccurs, and_assoc]

theorem pointOccurs_iff (tr : Trigger) (r : PointReport) : pointOccurs tr r = true ↔
    (tr = .rise ∧ r.before.value = false ∧ r.after.value = true) ∨
    (tr = .fall ∧ r.before.value = true ∧ r.after.value = false) ∨
    (tr = .change ∧ r.before.value ≠ r.after.value) ∨
    (tr = .condition ∧ (r.before.cond ≠ r.after.cond ∨ r.before.forced ≠ r.after.forced)) := by
  cases tr <;> simp [pointOccurs]

theorem watches_iff (e : WatchEntry) (x : Subject) : watches e x = true ↔ e.enabled = true ∧ e.subject = x := by
  simp [watches]

/-! ### Withdrawal -/

section Withdrawal

variable {w : WatchNo}

/-- R55: with one notice for a watch, taking its first one away takes it away. -/
theorem eraseP_watch {q : List Notice} (h : (q.map (·.watch)).Nodup) :
    q.eraseP (fun n => n.watch == w) = q.filter (fun n => n.watch ≠ w) := by
  induction q with
  | nil => rfl
  | cons m q ih =>
    rw [List.map_cons, List.nodup_cons] at h
    obtain ⟨hm, hq⟩ := h
    by_cases hw : m.watch = w
    · have hrest : q.filter (fun n => n.watch ≠ w) = q := by
        rw [List.filter_eq_self]
        intro n hn
        have hne : n.watch ≠ w := fun hnw => hm (List.mem_map.2 ⟨n, hn, hnw.trans hw.symm⟩)
        simpa using hne
      rw [List.eraseP_cons_of_pos (by simpa using hw), List.filter_cons_of_neg (by simpa using hw), hrest]
    · simp [hw, ih hq]

theorem queuedFor_iff {q : List Notice} : queuedFor q w = true ↔ ∃ n ∈ q, n.watch = w := by
  simp [queuedFor]

theorem withdraw_eq {s : State} (h : (s.notice.queue.map (·.watch)).Nodup) : withdraw w s = withdrawnFrom s w := by
  simp only [withdraw, withdrawnFrom, queuedFor_iff, eraseP_watch h]
  rfl

/-- R62: a watch without a queued notice has none to withdraw. -/
theorem withdrawnFrom_of_unqueued {s : State} (h : w ∉ s.notice.queue.map (·.watch)) : withdrawnFrom s w = s := by
  rw [withdrawnFrom, if_neg fun ⟨n, hn, hw⟩ => h (List.mem_map.2 ⟨n, hn, hw⟩)]

end Withdrawal

/-! ### Occurrences -/

section Occurrences

variable {w : WatchNo} {o : Occurrence} {n : Word16} {s : State}

theorem takeOccurrence_coalesces (h : (s.notice.records.get w).queued = true) :
    takeOccurrence w o n s = coalesce w o n s := by
  rw [takeOccurrence, if_pos h]

theorem takeOccurrence_absorbs (h : (s.notice.records.get w).queued = false)
    (hh : 0 < (s.notice.records.get w).holdoff) : takeOccurrence w o n s = absorb w s := by
  rw [takeOccurrence, if_neg (by simp [h]), if_pos hh]

theorem takeOccurrence_raises (h : (s.notice.records.get w).queued = false)
    (hh : (s.notice.records.get w).holdoff = 0) : takeOccurrence w o n s = raise w o n s := by
  rw [takeOccurrence, if_neg (by simp [h]), if_neg (by simp [hh])]

end Occurrences

/-- Settles O27: the queued mark and the holdoff select what an occurrence does, and the level what a report that is
none does. -/
theorem occurrencesCoalesceAreAbsorbedOrRaise : Obligations.OccurrencesCoalesceAreAbsorbedOrRaise := by
  refine fun w e v o s hq => ⟨fun hqueued => takeOccurrence_coalesces hqueued,
    fun hqueued hholdoff => takeOccurrence_absorbs hqueued hholdoff,
    fun hqueued hholdoff => takeOccurrence_raises hqueued hholdoff, fun hoff => ?off, fun hon => ?on⟩
  case off => rw [← withdraw_eq hq, offerToWatch, if_neg Bool.false_ne_true, if_pos ((offLevel_iff ..).2 hoff)]
  case on => rw [offerToWatch, if_neg Bool.false_ne_true, if_neg (mt (offLevel_iff ..).1 hon)]

/-! ### Reports offered -/

section Entries

variable (w : WatchNo) (s : State)

theorem displaceLast_entries : (displaceLast s).notice.entries = s.notice.entries := by
  unfold displaceLast
  split <;> rfl

theorem offerNotice_entries (n : Notice) : (offerNotice n s).notice.entries = s.notice.entries := by
  unfold offerNotice
  split
  · rfl
  · split
    · exact displaceLast_entries s
    · rfl

theorem takeOccurrence_entries (o : Occurrence) (n : Word16) :
    (takeOccurrence w o n s).notice.entries = s.notice.entries := by
  unfold takeOccurrence
  split
  · rfl
  · split
    · rfl
    · exact offerNotice_entries ..

theorem withdraw_entries : (withdraw w s).notice.entries = s.notice.entries := by
  unfold withdraw
  split <;> rfl

theorem offerToWatch_entries (e : WatchEntry) (b v : Bool) (o : Occurrence) :
    (offerToWatch w e b v o s).notice.entries = s.notice.entries := by
  unfold offerToWatch
  split
  · exact takeOccurrence_entries ..
  · split
    · exact withdraw_entries w s
    · rfl

end Entries

/-- R52: the entries by which a report is offered are those that stand when it is taken. -/
theorem foldl_offers {x : Subject} {occurs : Trigger → Bool} {v : Bool} {o : Occurrence} (entries : Tab 48 WatchEntry)
    (l : List WatchNo) : ∀ t : State, t.notice.entries = entries →
      l.foldl (fun t w => let e := t.notice.entries.get w
        if watches e x then offerToWatch w e (occurs e.trigger) v o t else t) t =
      l.foldl (fun t w => if (entries.get w).enabled = true ∧ (entries.get w).subject = x then
        offerToWatch w (entries.get w) (occurs (entries.get w).trigger) v o t else t) t := by
  induction l with
  | nil => exact fun _ _ => rfl
  | cons w l ih =>
    intro t ht
    rw [List.foldl_cons, List.foldl_cons, ih]
    · simp only [watches_iff, ht]
    · dsimp only
      split
      · rw [offerToWatch_entries, ht]
      · exact ht

/-- Settles O26: each report is offered by the entries of its taking. -/
theorem reportsAreOfferedToTheirWatches : Obligations.ReportsAreOfferedToTheirWatches := by
  intro s free waits
  have hwait : ∀ l, waits l → AllWait [] l := fun l h before r after e =>
    (h before r after e).imp_right .inr
  refine ⟨fun r rest htaps => ?tap, fun l r l' hpoints hl hr => ?point, fun hall => ?waits,
    tapOccurs_iff, pointOccurs_iff⟩
  case waits =>
    show Host.Outcome.next _ = _
    rw [nextPointReport_none _ _ (hwait _ hall)]
  case tap =>
    have hexec : exec .watchTapReport s = .next (noticeTakeTapReport r rest s) := by
      show execWatchTapReport s = _
      rw [execWatchTapReport, htaps]
      exact congrArg _ (unlessHeld_free free _)
    rw [hexec, noticeTakeTapReport, offerTapReport, indices_eq]
    generalize List.finRange 48 = watchNumbers
    exact congrArg _ (foldl_offers (occurs := (tapOccurs · r)) s.notice.entries _ _ (by rfl))
  case point =>
    have hexec : exec .watchPointReport s = .next (noticeTakePointReport r (l ++ l') s) := by
      show execWatchPointReport s = _
      rw [execWatchPointReport, hpoints, nextPointReport_some l r l' [] (hwait l hl) List.not_mem_nil hr]
      exact congrArg _ (unlessHeld_free free _)
    rw [hexec, noticeTakePointReport, offerPointReport, indices_eq]
    generalize List.finRange 48 = watchNumbers
    exact congrArg _ (foldl_offers (occurs := (pointOccurs · r)) s.notice.entries _ _ (by rfl))

/-! ### Cycle starts -/

theorem exec_noticeCycleStart {s : State} {c : CycleStart} {rest : List CycleStart} (free : s.resetLine = false)
    (h : s.notice.inbox = c :: rest) : exec .noticeCycleStart s = .next (noticeCycle c rest s) := by
  show execNoticeCycleStart s = _
  rw [execNoticeCycleStart, noticeTakes, h]
  exact congrArg _ (unlessHeld_free free _)

section Levels

variable {n : Word16} {w : WatchNo} {s : State}

/-- R54: an enabled HIGH or LOW watch. -/
theorem level_iff (e : WatchEntry) : (e.enabled && isLevel e.trigger) = true ↔
    e.enabled = true ∧ (e.trigger = .high ∨ e.trigger = .low) := by
  rw [Bool.and_eq_true, isLevel_iff]

theorem evaluateLevel_of_off (hq : (s.notice.queue.map (·.watch)).Nodup)
    (hmark : (s.notice.records.get w).queued = true ↔ w ∈ s.notice.queue.map (·.watch))
    (hlevel : ((s.notice.entries.get w).enabled && isLevel (s.notice.entries.get w).trigger) = true)
    (hoff : OffItsLevel (s.notice.entries.get w).trigger (readSubject s (s.notice.entries.get w).subject).value) :
    evaluateLevel n w s = withdrawnFrom s w := by
  simp only [evaluateLevel, if_pos hlevel, if_pos ((offLevel_iff ..).2 hoff)]
  split
  · exact withdraw_eq hq
  · next hqueued => exact (withdrawnFrom_of_unqueued (mt hmark.2 hqueued)).symm

theorem evaluateLevel_of_on
    (hlevel : ((s.notice.entries.get w).enabled && isLevel (s.notice.entries.get w).trigger) = true)
    (hon : ¬OffItsLevel (s.notice.entries.get w).trigger (readSubject s (s.notice.entries.get w).subject).value) :
    evaluateLevel n w s =
      if (s.notice.records.get w).queued = false ∧ (s.notice.records.get w).holdoff = 0 then
        raise w (readSubject s (s.notice.entries.get w).subject) n s
      else s := by
  have hready : (!(s.notice.records.get w).queued && (s.notice.records.get w).holdoff == 0) = true ↔
      (s.notice.records.get w).queued = false ∧ (s.notice.records.get w).holdoff = 0 := by simp
  simp only [evaluateLevel, if_pos hlevel, if_neg (mt (offLevel_iff ..).1 hon), hready]
  split
  · next hfree => exact takeOccurrence_raises hfree.1 hfree.2
  · rfl

theorem evaluateLevel_of_no_level
    (h : ¬((s.notice.entries.get w).enabled && isLevel (s.notice.entries.get w).trigger) = true) :
    evaluateLevel n w s = s := by
  rw [evaluateLevel, if_neg h]

end Levels

/-- Settles O29: the level and what stands queued select what the evaluation of a watch does. -/
theorem cycleStartsLowerHoldoffsAndEvaluateLevels : Obligations.CycleStartsLowerHoldoffsAndEvaluateLevels := by
  refine ⟨fun s n rest free h => ?_, fun n w s hq hmark => ?_⟩
  · rw [exec_noticeCycleStart free h, noticeCycle, indices_eq]; rfl
  · intro e r o level
    have hsubject : o = readSubject s e.subject := by
      simp only [o]
      cases e.subject <;> rfl
    simp only [level, ← level_iff, hsubject]
    refine ⟨evaluateLevel_of_off hq hmark, fun hlevel hon hqueued hholdoff => ?_, fun hlevel hon hbusy => ?_,
      evaluateLevel_of_no_level⟩
    · rw [evaluateLevel_of_on hlevel hon, if_pos ⟨hqueued, hholdoff⟩]; rfl
    · refine (evaluateLevel_of_on hlevel hon).trans (if_neg fun ⟨hqueued, hholdoff⟩ => ?_)
      obtain hb | hb := hbusy
      · exact Bool.false_ne_true (hqueued.symm.trans hb)
      · exact hb.ne' hholdoff

end Sys2Proof.Machine

/-! PROOFS. The delivery side: retries, sequence numbers, emission (chapter 4, R76 to R81). -/

namespace Sys2Proof.Machine

/-! ### Sequence numbers -/

theorem ofNat_add_injOn (b : Byte) {n : Nat} (h : n < 256) :
    Set.InjOn (fun k => b + BitVec.ofNat 8 k) (Finset.range (n + 1)) := by
  intro i hi j hj hij
  rw [Finset.coe_range, Set.mem_Iio] at hi hj
  have heq : BitVec.ofNat 8 i = BitVec.ofNat 8 j := add_left_cancel hij
  have hnat := congrArg BitVec.toNat heq
  rw [BitVec.toNat_ofNat, BitVec.toNat_ofNat, Nat.mod_eq_of_lt (by omega), Nat.mod_eq_of_lt (by omega)] at hnat
  exact hnat

/-- R76: fewer than 256 records cannot hold as many values, from any counter on, and one more. -/
theorem exists_free {used : List Byte} (b : Byte) (h : used.length < 256) :
    ∃ k ≤ used.length, b + BitVec.ofNat 8 k ∉ used := by
  by_contra hall
  push Not at hall
  have hsub : (Finset.range (used.length + 1)).image (fun k => b + BitVec.ofNat 8 k) ⊆ used.toFinset := by
    intro x hx
    obtain ⟨k, hk, rfl⟩ := Finset.mem_image.1 hx
    exact List.mem_toFinset.2 (hall k (Nat.le_of_lt_succ (Finset.mem_range.1 hk)))
  have hcard := (Finset.card_le_card hsub).trans used.toFinset_card_le
  rw [Finset.card_image_of_injOn (ofNat_add_injOn b h), Finset.card_range] at hcard
  omega

/-- R76: the number given is the first free one. -/
theorem freeSequence_free {used : List Byte} (b : Byte) (h : used.length < 256) :
    freeSequence used used.length b ∉ used ∧ ∃ k ≤ used.length,
      freeSequence used used.length b = b + BitVec.ofNat 8 k ∧ ∀ j < k, b + BitVec.ofNat 8 j ∈ used := by
  obtain ⟨k, hk, hvalue, hheld, hfree⟩ := freeSequence_spec used used.length b
  refine ⟨?_, k, hk, hvalue, hheld⟩
  obtain ⟨m, hm, hnot⟩ := exists_free b h
  have hkm : k ≤ m := Nat.le_of_not_lt fun hlt => hnot (hheld m hlt)
  rw [hvalue]
  obtain hlt | heq := hk.lt_or_eq
  · exact hfree hlt
  · have hmk : m = k := by omega
    exact hmk ▸ hnot

/-- Settles O33: the search stops at a free number, by counting. -/
theorem nextSequenceNumberIsTheFirstFree : Obligations.NextSequenceNumberIsTheFirstFree := by
  intro s h used
  have hlength : used.length = s.delivery.inFlight.length := List.length_map ..
  have hnext : nextSequence s = freeSequence used used.length s.delivery.sequence := by rw [hlength]; rfl
  rw [hnext, ← hlength]
  exact freeSequence_free _ (hlength ▸ h)

/-! ### Retries -/

section Retries

variable {f : FlightRecord} {s : State}

theorem attention_eq (s : State) : attention s = decide (s.engine.indicators ≠ 0) := by
  rw [attention, bne, Bool.beq_eq_decide_eq, decide_not]

theorem sendNotice_eq (again : Bool) (f : FlightRecord) (s : State) : sendNotice again f s = { s with
    trunk := noticePlacedFor (makeNoticeCell s.engine.station (s.engine.indicators ≠ 0) again s.cycle.count f)
      s.trunk } := by
  rw [sendNotice, placeNotice_eq, attention_eq]

theorem noticeRoom_iff (s : State) : noticeRoom s = true ↔ s.trunk.notice.length < 8 := decide_eq_true_iff

theorem retryRecord_not_due (h : 1 < f.countdown) : retryRecord f s = (some (countedDown f), s) := by
  rw [retryRecord, if_neg (by simpa [isDue] using h)]

theorem retryRecord_resent (h : f.countdown ≤ 1) (hleft : 0 < f.attemptsLeft) (hroom : s.trunk.notice.length < 8) :
    retryRecord f s = (some (resent s.delivery.retryInterval f),
      sendNotice true (resent s.delivery.retryInterval f) s) := by
  rw [retryRecord, if_pos (by simpa [isDue] using h), if_pos hleft, if_pos ((noticeRoom_iff s).2 hroom)]

theorem retryRecord_postponed (h : f.countdown ≤ 1) (hleft : 0 < f.attemptsLeft)
    (hroom : 8 ≤ s.trunk.notice.length) : retryRecord f s = (some (countedDown f), s) := by
  rw [retryRecord, if_pos (by simpa [isDue] using h), if_pos hleft,
    if_neg (mt (noticeRoom_iff s).1 (Nat.not_lt.2 hroom))]

theorem retryRecord_expires (h : f.countdown ≤ 1) (hleft : f.attemptsLeft = 0) :
    retryRecord f s = (none, (countLost s).indicate .loss) := by
  rw [retryRecord, if_pos (by simpa [isDue] using h), if_neg (by simp [hleft])]

/-- R77: a record that stays, before the rest of the list. -/
theorem retryAll_kept {g : FlightRecord} {t : State} (l : List FlightRecord) (h : retryRecord f s = (some g, t)) :
    retryAll (f :: l) s = (g :: (retryAll l t).1, (retryAll l t).2) := by
  simp only [retryAll, h, Option.toList_some, List.singleton_append]

theorem retryAll_left {t : State} (l : List FlightRecord) (h : retryRecord f s = (none, t)) :
    retryAll (f :: l) s = retryAll l t := by
  simp only [retryAll, h, Option.toList_none, List.nil_append]

end Retries

/-- Settles O32: the countdown, the attempts left and the room select what becomes of a record. -/
theorem retriesLowerResendPostponeOrExpire : Obligations.RetriesLowerResendPostponeOrExpire := by
  refine ⟨fun s => ?_, fun f l s => ⟨rfl, fun h => retryAll_kept l (retryRecord_not_due h), fun hdue =>
    ⟨fun hleft hroom => ?_, fun hleft hroom => retryAll_kept l (retryRecord_postponed hdue hleft hroom),
      fun hleft => retryAll_left l (retryRecord_expires hdue hleft)⟩⟩⟩
  · show { (retryAll s.delivery.inFlight s).2 with delivery := { (retryAll s.delivery.inFlight s).2.delivery with
      inFlight := (retryAll s.delivery.inFlight s).1 } } = _
    rw [retryAll_delivery]
  · rw [retryAll_kept l (retryRecord_resent hdue hleft hroom), sendNotice_eq]
    rfl

/-! ### Emission -/

section Emission

variable {s : State}

theorem exec_deliveryCycleStart {c : CycleStart} {rest : List CycleStart} (free : s.resetLine = false)
    (h : s.delivery.inbox = c :: rest) : deliveryTakes s = deliveryCycle rest s := by
  rw [deliveryTakes, h]
  exact unlessHeld_free free _

theorem dueWith_of_mem {f : FlightRecord} {left : Bool} (hf : f ∈ s.delivery.inFlight) (hdue : f.countdown ≤ 1)
    (hleft : decide (0 < f.attemptsLeft) = left) : dueWith f.sequence left s = true :=
  List.any_eq_true.2 ⟨f, hf, by simp [isDue, hdue, hleft]⟩

theorem nextNotice_of_first {l l' : List Notice} {n : Notice} (hq : s.notice.queue = l ++ n :: l')
    (hclosed : ∀ m ∈ l, ¬s.notice.gates.get m.cls = true) (hopen : s.notice.gates.get n.cls = true) :
    nextNotice s = some n := by
  rw [nextNotice, hq, List.find?_append, List.find?_eq_none.2 hclosed, List.find?_cons_of_pos (by exact hopen)]
  rfl

/-- R79: the emissions end where the gates or the room let none out. -/
theorem emitUpTo_of_closed (k : Nat) (h : ∀ n ∈ s.notice.queue, ¬s.notice.gates.get n.cls = true) :
    emitUpTo k s = s := by
  cases k with
  | zero => rfl
  | succ k =>
    have hnone : nextNotice s = none := List.find?_eq_none.2 h
    rw [emitUpTo, hnone]

theorem emissionRoom_iff (s : State) : (s.delivery.inFlight.length < Config.flightCapacity && noticeRoom s) = true ↔
    s.delivery.inFlight.length < 8 ∧ s.trunk.notice.length < 8 := by
  rw [Bool.and_eq_true, noticeRoom_iff, decide_eq_true_iff]

theorem emitUpTo_of_no_room (k : Nat) (h : ¬(s.delivery.inFlight.length < 8 ∧ s.trunk.notice.length < 8)) :
    emitUpTo k s = s := by
  cases k with
  | zero => rfl
  | succ k =>
    unfold emitUpTo
    split
    · rfl
    · rw [if_neg (mt (emissionRoom_iff s).1 h)]

theorem emitUpTo_emits (k : Nat) {n : Notice} (hnext : nextNotice s = some n)
    (hroom : s.delivery.inFlight.length < 8 ∧ s.trunk.notice.length < 8) :
    emitUpTo (k + 1) s = emitUpTo k (emitNotice n s) := by
  rw [emitUpTo, hnext]
  exact if_pos ((emissionRoom_iff s).2 hroom)

/-- R80: what an emission writes. -/
theorem emitNotice_eq (n : Notice) (s : State) :
    let f : FlightRecord := ⟨n, nextSequence s, s.delivery.retryInterval, s.delivery.attempts, 0⟩
    emitNotice n s = { s with
      notice := { s.notice with
        queue := s.notice.queue.erase n,
        records := s.notice.records.set n.watch { s.notice.records.get n.watch with queued := false } },
      delivery := { s.delivery with inFlight := s.delivery.inFlight ++ [f], sequence := nextSequence s + 1 },
      trunk := noticePlacedFor (makeNoticeCell s.engine.station (s.engine.indicators ≠ 0) false s.cycle.count f)
        s.trunk } := by
  intro f
  rw [emitNotice, sendNotice_eq]
  rfl

end Emission

/-- Settles O31: the taking is retries and emissions, whichever of the three commands brings it about, and the head of
the open notices is what each emission takes. -/
theorem deliveryRetriesFirstAndEmitsToTheBudget : Obligations.DeliveryRetriesFirstAndEmitsToTheBudget := by
  refine ⟨fun s c rest free h => ?taking, fun k s => ⟨rfl, emitUpTo_of_closed k, emitUpTo_of_no_room k,
    fun l n l' hq hclosed hopen hroom => ?emission⟩⟩
  case taking =>
    have htakes := exec_deliveryCycleStart free h
    refine ⟨deliveryCycle rest s, ?_, congrArg _ htakes, fun f hf hdue => ⟨fun hleft => ?_, fun hleft => ?_⟩⟩
    · rw [deliveryCycle, retries]
      dsimp only
      rw [retryAll_delivery]
    · show Host.Outcome.next (if dueWith f.sequence true s then deliveryTakes s else s) = _
      rw [if_pos (dueWith_of_mem hf hdue (by simpa using hleft)), htakes]
    · show Host.Outcome.next (if dueWith f.sequence false s then deliveryTakes s else s) = _
      rw [if_pos (dueWith_of_mem hf hdue (by simp [hleft])), htakes]
  case emission =>
    have hnot : n ∉ l := fun hn => hclosed n hn hopen
    have herase : s.notice.queue.erase n = l ++ l' := by
      rw [hq, List.erase_append_right _ hnot, List.erase_cons_head]
    intro f
    rw [emitUpTo_emits k (nextNotice_of_first hq hclosed hopen) hroom, emitNotice_eq, herase]

end Sys2Proof.Machine

/-! PROOFS. The notices' invariant: the queue in class order and marked, the records in flight distinct, and every raised
notice accounted for (chapter 3, R49, R50, R59, R60, R67, R68; chapter 4.2, R75). -/

namespace Sys2Proof.Machine

/-! ### The queue and the records of the watches -/

/-- The part of the invariant that speaks of the queue and the watches. -/
structure QueueOk (u : NoticeUnit) : Prop where
  room     : u.queue.length ≤ 24
  sorted   : u.queue.Pairwise (fun a b => a.cls ≤ b.cls)
  single   : (u.queue.map (·.watch)).Nodup
  marked   : ∀ w, (u.records.get w).queued = true ↔ w ∈ u.queue.map (·.watch)
  disabled : ∀ w, (u.entries.get w).enabled = false → u.records.get w = initialWatch

section Queue

variable {u : NoticeUnit}

/-- The queue and the watches alone matter. -/
theorem QueueOk.same (h : QueueOk u) {v : NoticeUnit} (he : v.entries = u.entries) (hr : v.records = u.records)
    (hq : v.queue = u.queue) : QueueOk v :=
  ⟨hq ▸ h.room, hq ▸ h.sorted, hq ▸ h.single, hr ▸ hq ▸ h.marked, he ▸ hr ▸ h.disabled⟩

/-- R55: an entry of the queue taken out, its watch's mark cleared. -/
theorem QueueOk.remove (h : QueueOk u) {l l' : List Notice} {m : Notice} (hq : u.queue = l ++ m :: l') :
    QueueOk { u with
      queue := l ++ l', records := u.records.set m.watch { u.records.get m.watch with queued := false } } := by
  have hperm : u.queue.Perm (m :: (l ++ l')) := hq ▸ List.perm_middle
  have hsub : (l ++ l').Sublist u.queue := hq ▸ (List.Sublist.refl l).append (List.sublist_cons_self m l')
  have hsingle : ((m :: (l ++ l')).map (·.watch)).Nodup := (hperm.map _).nodup_iff.1 h.single
  rw [List.map_cons, List.nodup_cons] at hsingle
  obtain ⟨hgone, hrest⟩ := hsingle
  have hmem : ∀ w, w ∈ u.queue.map (·.watch) ↔ w = m.watch ∨ w ∈ (l ++ l').map (·.watch) := fun w => by
    rw [(hperm.map (·.watch)).mem_iff, List.map_cons, List.mem_cons]
  refine ⟨hsub.length_le.trans h.room, h.sorted.sublist hsub, hrest, fun w => ?_, fun w hoff => ?_⟩
  · show ((u.records.set m.watch _).get w).queued = true ↔ _
    rw [get_set]
    split
    · next heq => subst heq; exact iff_of_false Bool.false_ne_true hgone
    · next hne => rw [h.marked, hmem, or_iff_right (Ne.symm hne)]
  · show (u.records.set m.watch _).get w = _
    rw [get_set]
    split
    · next heq =>
      subst heq
      rw [h.disabled _ hoff]
      rfl
    · exact h.disabled w hoff

/-- R58, R59: a notice of an enabled watch without one put in. -/
theorem QueueOk.insert (h : QueueOk u) {n : Notice} (holdoff : Nat) (hroom : u.queue.length < 24)
    (hon : (u.entries.get n.watch).enabled = true) (hnew : n.watch ∉ u.queue.map (·.watch)) :
    QueueOk { u with
      queue := insertNotice n u.queue,
      records := u.records.set n.watch { u.records.get n.watch with queued := true, holdoff := holdoff } } := by
  have hperm := insertNotice_perm n u.queue
  have hmem : ∀ w, w ∈ (insertNotice n u.queue).map (·.watch) ↔ w = n.watch ∨ w ∈ u.queue.map (·.watch) := fun w => by
    rw [(hperm.map (·.watch)).mem_iff, List.map_cons, List.mem_cons]
  refine ⟨by rw [hperm.length_eq]; exact hroom, insertNotice_sorted n _ h.sorted, ?_, fun w => ?_, fun w hoff => ?_⟩
  · rw [(hperm.map (·.watch)).nodup_iff, List.map_cons, List.nodup_cons]
    exact ⟨hnew, h.single⟩
  · show ((u.records.set n.watch _).get w).queued = true ↔ _
    rw [get_set, hmem]
    split
    · next heq => exact iff_of_true rfl (.inl heq.symm)
    · next hne => rw [h.marked, or_iff_right (Ne.symm hne)]
  · show (u.records.set n.watch _).get w = _
    rw [get_set]
    split
    · next heq => subst heq; rw [hon] at hoff; cases hoff
    · exact h.disabled w hoff

/-- R53, R57: the holdoff and the absorbed count of enabled watches are free. -/
theorem QueueOk.records (h : QueueOk u) {records : Tab 48 WatchRecord}
    (hqueued : ∀ w, (records.get w).queued = (u.records.get w).queued)
    (hoff : ∀ w, (u.entries.get w).enabled = false → records.get w = u.records.get w) :
    QueueOk { u with records := records } :=
  ⟨h.room, h.sorted, h.single, fun w => by rw [← h.marked w, ← hqueued w], fun w hw =>
    (hoff w hw).trans (h.disabled w hw)⟩

/-- R56: what a notice says of its occurrences is free. -/
theorem QueueOk.map (h : QueueOk u) {f : Notice → Notice} (hwatch : ∀ n, (f n).watch = n.watch)
    (hcls : ∀ n, (f n).cls = n.cls) : QueueOk { u with queue := u.queue.map f } := by
  have hmap : (u.queue.map f).map (·.watch) = u.queue.map (·.watch) := by
    rw [List.map_map]; exact List.map_congr_left fun n _ => hwatch n
  refine ⟨by simpa using h.room, ?_, by rw [hmap]; exact h.single, fun w => by rw [hmap]; exact h.marked w, h.disabled⟩
  rw [List.pairwise_map]
  simpa only [hcls] using h.sorted

end Queue

/-! ### The account -/

/-- R67: every raised notice is acknowledged, lost, withdrawn, queued, or one of `k` others. -/
def Balanced (k : Word32) (u : NoticeUnit) : Prop :=
  u.raised = u.acknowledged + u.lost + u.withdrawn + BitVec.ofNat 32 u.queue.length + k

/-- The invariant of the raising side, with `k` notices out of its hands. -/
structure RaisingOk (k : Word32) (u : NoticeUnit) : Prop where
  queue   : QueueOk u
  account : Balanced k u

theorem noticesInv_iff (s : State) : NoticesInv s ↔
    RaisingOk (BitVec.ofNat 32 s.delivery.inFlight.length) s.notice ∧ s.delivery.inFlight.length ≤ 8 ∧
      (s.delivery.inFlight.map (·.sequence)).Nodup := by
  constructor
  · rintro ⟨h1, h2, h3, h4, h5, h6, h7, h8⟩
    exact ⟨⟨⟨h1, h2, h3, h4, h5⟩, h8⟩, h6, h7⟩
  · rintro ⟨⟨⟨h1, h2, h3, h4, h5⟩, h8⟩, h6, h7⟩
    exact ⟨h1, h2, h3, h4, h5, h6, h7, h8⟩

section Raising

variable {k : Word32} {s : State}

theorem length_remove (l l' : List Notice) (m : Notice) :
    BitVec.ofNat 32 (l ++ m :: l').length = BitVec.ofNat 32 (l ++ l').length + 1 := by
  rw [List.length_append, List.length_cons, ← Nat.add_assoc, ← List.length_append, BitVec.ofNat_add]
  rfl

/-- R66: a notice that is nowhere is lost. -/
theorem raisingOk_countLost (h : RaisingOk (k + 1) s.notice) : RaisingOk k (countLost s).notice := by
  obtain ⟨hqueue, haccount⟩ := h
  refine ⟨hqueue.same rfl rfl rfl, ?_⟩
  show s.notice.raised = _ + (s.notice.lost + 1) + _ + _ + k
  rw [haccount]
  ac_rfl

theorem raisingOk_enqueueNotice {n : Notice} (h : RaisingOk (k + 1) s.notice) (hroom : s.notice.queue.length < 24)
    (hon : (s.notice.entries.get n.watch).enabled = true) (hnew : n.watch ∉ s.notice.queue.map (·.watch)) :
    RaisingOk k (enqueueNotice n s).notice := by
  refine ⟨h.queue.insert _ hroom hon hnew, ?_⟩
  have hlength : (insertNotice n s.notice.queue).length = s.notice.queue.length + 1 :=
    (insertNotice_perm n s.notice.queue).length_eq
  show s.notice.raised = _ + _ + _ + BitVec.ofNat 32 (insertNotice n s.notice.queue).length + k
  rw [hlength, BitVec.ofNat_add, h.account]
  ac_rfl

/-- R60: the last notice is displaced, and counted as lost. -/
theorem raisingOk_displaceLast {q : List Notice} {m : Notice} (h : RaisingOk k s.notice)
    (hq : s.notice.queue = q ++ [m]) : RaisingOk k (displaceLast s).notice := by
  have hremove := h.queue.remove hq
  rw [List.append_nil] at hremove
  have haccount := h.account
  unfold Balanced at haccount
  rw [hq, length_remove, List.append_nil] at haccount
  rw [displaceLast_concat hq]
  refine raisingOk_countLost ⟨hremove, ?_⟩
  show s.notice.raised = _ + _ + _ + BitVec.ofNat 32 q.length + (k + 1)
  rw [haccount]
  ac_rfl

theorem raisingOk_offerNotice {n : Notice} (h : RaisingOk (k + 1) s.notice)
    (hon : (s.notice.entries.get n.watch).enabled = true) (hnew : n.watch ∉ s.notice.queue.map (·.watch)) :
    RaisingOk k (offerNotice n s).notice := by
  obtain hroom | hfull := Nat.lt_or_ge s.notice.queue.length 24
  · rw [offerNotice_of_room hroom]
    exact raisingOk_enqueueNotice h hroom hon hnew
  · by_cases hless : ∃ m ∈ s.notice.queue, n.cls < m.cls
    · obtain ⟨q, m, hq⟩ : ∃ q m, s.notice.queue = q ++ [m] := by
        obtain ⟨m, hm, -⟩ := hless
        exact (List.eq_nil_or_concat' s.notice.queue).resolve_left (List.ne_nil_of_mem hm)
      have hlast := raisingOk_displaceLast h hq
      have hqueue : ((displaceLast s).indicate .overflow).notice.queue = q := by rw [displaceLast_concat hq]; rfl
      have hroom := h.queue.room
      rw [offerNotice_displaces hfull hless]
      refine raisingOk_enqueueNotice hlast ?_ ?_ ?_
      · rw [hqueue]
        rw [hq, List.length_append, List.length_singleton] at hroom
        omega
      · rw [indicate_notice, displaceLast_entries]; exact hon
      · rw [hqueue]
        exact fun hn => hnew (by rw [hq, List.map_append]; exact List.mem_append_left _ hn)
    · push Not at hless
      rw [offerNotice_drops hfull hless]
      exact raisingOk_countLost h

/-- R55 to R58: an occurrence of an enabled watch. -/
theorem raisingOk_takeOccurrence (w : WatchNo) (o : Occurrence) (n : Word16) (h : RaisingOk k s.notice)
    (hon : (s.notice.entries.get w).enabled = true) : RaisingOk k (takeOccurrence w o n s).notice := by
  unfold takeOccurrence
  split
  · refine ⟨h.queue.map (fun m => ?_) (fun m => ?_), ?_⟩
    · split <;> rfl
    · split <;> rfl
    · show s.notice.raised = _ + _ + _ + BitVec.ofNat 32 (List.map _ s.notice.queue).length + k
      rw [List.length_map]
      exact h.account
  · next hqueued =>
    split
    · refine ⟨?_, h.account⟩
      have hrecords := h.queue.records (records := s.notice.records.set w
        { s.notice.records.get w with absorbed := (s.notice.records.get w).absorbed + 1 }) (fun v => ?_) (fun v hv => ?_)
      · exact hrecords.same rfl rfl rfl
      · rw [get_set]
        split
        · next heq => subst heq; rfl
        · rfl
      · rw [get_set, if_neg]
        rintro rfl
        rw [hon] at hv
        cases hv
    · refine raisingOk_offerNotice ⟨?_, ?_⟩ hon (mt (h.queue.marked w).2 hqueued)
      · exact h.queue.same rfl rfl rfl
      · show s.notice.raised + 1 = _ + _ + _ + _ + (k + 1)
        rw [h.account]
        ac_rfl

theorem raisingOk_withdraw (w : WatchNo) (h : RaisingOk k s.notice) : RaisingOk k (withdraw w s).notice := by
  unfold withdraw
  split
  · next hfor =>
    obtain ⟨m, l, l', -, hm, hq, herase⟩ := List.exists_of_eraseP (p := fun n : Notice => n.watch == w)
      (queuedFor_iff.1 hfor).choose_spec.1 (beq_iff_eq.2 (queuedFor_iff.1 hfor).choose_spec.2)
    have hw : m.watch = w := eq_of_beq hm
    subst hw
    have hremove := h.queue.remove hq
    refine ⟨?_, ?_⟩
    · rw [← herase] at hremove
      exact hremove.same rfl rfl rfl
    · have haccount := h.account
      unfold Balanced at haccount
      rw [hq, length_remove, ← herase] at haccount
      show s.notice.raised = _ + _ + (s.notice.withdrawn + 1) + BitVec.ofNat 32 (List.eraseP _ s.notice.queue).length + k
      rw [haccount]
      ac_rfl
  · exact h

theorem raisingOk_offerToWatch (w : WatchNo) (e : WatchEntry) (b v : Bool) (o : Occurrence) (h : RaisingOk k s.notice)
    (hon : (s.notice.entries.get w).enabled = true) : RaisingOk k (offerToWatch w e b v o s).notice := by
  unfold offerToWatch
  split
  · exact raisingOk_takeOccurrence w o _ h hon
  · split
    · exact raisingOk_withdraw w h
    · exact h

theorem raisingOk_foldl {α : Type} {f : State → α → State}
    (hf : ∀ s a, RaisingOk k s.notice → RaisingOk k (f s a).notice) (l : List α) (h : RaisingOk k s.notice) :
    RaisingOk k (l.foldl f s).notice := by
  induction l generalizing s with
  | nil => exact h
  | cons a l ih => exact ih (hf s a h)

theorem raisingOk_evaluateLevel (n : Word16) (w : WatchNo) (h : RaisingOk k s.notice) :
    RaisingOk k (evaluateLevel n w s).notice := by
  unfold evaluateLevel
  dsimp only
  split
  · next hlevel =>
    rw [Bool.and_eq_true] at hlevel
    split
    · split
      · exact raisingOk_withdraw w h
      · exact h
    · split
      · exact raisingOk_takeOccurrence w _ n h hlevel.1
      · exact h
  · exact h

theorem raisingOk_lowerHoldoffs (h : RaisingOk k s.notice) : RaisingOk k (lowerHoldoffs s).notice := by
  refine ⟨h.queue.records (fun w => ?_) (fun w hw => ?_), h.account⟩
  · rw [get_ofFn]
    dsimp only
    split <;> rfl
  · rw [get_ofFn]
    dsimp only
    rw [hw]
    rfl

end Raising

/-! ### Carry-over at a swap -/

/-- R68: the part after the watches that `gone` names have had their queued notices withdrawn and started again. -/
def carried (gone : WatchNo → Bool) (s : State) : State :=
  { s with notice := { s.notice with
      queue := s.notice.queue.filter fun m => !gone m.watch
      records := Tab.ofFn fun w => if gone w then initialWatch else s.notice.records.get w
      withdrawn := s.notice.withdrawn + BitVec.ofNat 32 (s.notice.queue.countP fun m => gone m.watch) } }

section Carried

variable {s : State}

theorem carried_none {gone : WatchNo → Bool} (h : ∀ w, gone w = false) : carried gone s = s := by
  have hqueue : (s.notice.queue.filter fun m => !gone m.watch) = s.notice.queue :=
    List.filter_eq_self.2 fun m _ => by rw [h]; rfl
  have hcount : (s.notice.queue.countP fun m => gone m.watch) = 0 :=
    List.countP_eq_zero.2 fun m _ => by rw [h]; exact Bool.false_ne_true
  have hrecords : (Tab.ofFn fun w => if gone w then initialWatch else s.notice.records.get w) = s.notice.records :=
    tab_ext fun w => by rw [get_ofFn, h]; rfl
  rw [carried, hqueue, hcount, hrecords, BitVec.add_zero]

theorem carried_carried (gone more : WatchNo → Bool) (s : State) :
    carried more (carried gone s) = carried (fun w => gone w || more w) s := by
  have hqueue : ∀ q : List Notice, (q.filter fun m => !gone m.watch).filter (fun m => !more m.watch) =
      q.filter fun m => !(gone m.watch || more m.watch) := fun q => by
    rw [List.filter_filter]
    congr 1
    funext m
    rw [Bool.not_or, Bool.and_comm]
  have hcount : ∀ q : List Notice, (q.countP fun m => gone m.watch) +
      (q.filter fun m => !gone m.watch).countP (fun m => more m.watch) =
        q.countP fun m => gone m.watch || more m.watch := fun q => by
    induction q with
    | nil => rfl
    | cons m q ih =>
      rw [List.countP_cons, List.countP_cons, ← ih, List.filter_cons]
      cases hg : gone m.watch <;> simp [List.countP_cons] <;> omega
  have hrecords : (Tab.ofFn fun w => if more w then initialWatch else
      (Tab.ofFn fun w => if gone w then initialWatch else s.notice.records.get w).get w) =
      Tab.ofFn fun w => if gone w || more w then initialWatch else s.notice.records.get w :=
    tab_ext fun w => by
      rw [get_ofFn, get_ofFn, get_ofFn]
      cases gone w <;> cases more w <;> rfl
  simp only [carried, hqueue, hrecords, add_assoc, ← BitVec.ofNat_add, hcount]

/-- R55, R66: the notices of one watch, counted. -/
theorem countP_watch {q : List Notice} (w : WatchNo) (h : (q.map (·.watch)).Nodup) :
    (q.countP fun m => m.watch == w) = if ∃ n ∈ q, n.watch = w then 1 else 0 := by
  have hcount : (q.countP fun m => m.watch == w) = (q.map (·.watch)).count w := by
    rw [List.count, List.countP_map]; rfl
  have hmem : (∃ n ∈ q, n.watch = w) ↔ w ∈ q.map (·.watch) := List.mem_map.symm
  rw [hcount, h.count, if_congr hmem rfl rfl]

/-- R62, R68: one watch whose entry changes. -/
theorem carried_watch (w : WatchNo) (h : (s.notice.queue.map (·.watch)).Nodup) :
    (withdraw w s).onWatch w (fun _ => initialWatch) = carried (fun v => v == w) s := by
  have hrecords : (Tab.ofFn fun v => if v == w then initialWatch else s.notice.records.get v) =
      s.notice.records.set w initialWatch := tab_ext fun v => by
    rw [get_ofFn, get_set]
    by_cases hv : v = w
    · simp [hv]
    · simp [hv, Ne.symm hv]
  have hqueue : (s.notice.queue.filter fun m => !(m.watch == w)) = s.notice.queue.filter fun m => m.watch ≠ w := by
    congr 1
    funext m
    rw [beq_eq_decide, decide_not]
  rw [withdraw_eq h, withdrawnFrom, carried, countP_watch w h, hrecords, hqueue]
  split
  · simp only [State.onWatch, set_set]
    rfl
  · next hnone =>
    have hall : (s.notice.queue.filter fun m => m.watch ≠ w) = s.notice.queue :=
      List.filter_eq_self.2 fun m hm => by simpa using fun hw => hnone ⟨m, hm, hw⟩
    rw [hall, State.onWatch, BitVec.add_zero]

theorem carryWatch_eq (new : Tab 48 WatchEntry) (w : WatchNo) (h : (s.notice.queue.map (·.watch)).Nodup) :
    carryWatch new w s = carried (fun v => v == w && decide (s.notice.entries.get v ≠ new.get v)) s := by
  unfold carryWatch
  split
  · next hkept => exact (carried_none fun v => by by_cases hv : v = w <;> simp [hv, hkept]).symm
  · next hchanged =>
    rw [carried_watch w h]
    congr 1
    funext v
    by_cases hv : v = w <;> simp [hv, hchanged]

theorem foldl_carryWatch (new : Tab 48 WatchEntry) (l : List WatchNo) (s : State)
    (h : (s.notice.queue.map (·.watch)).Nodup) : l.foldl (fun s w => carryWatch new w s) s =
      carried (fun w => decide (w ∈ l) && decide (s.notice.entries.get w ≠ new.get w)) s := by
  induction l generalizing s with
  | nil => exact (carried_none fun w => by simp).symm
  | cons w l ih =>
    rw [List.foldl_cons, carryWatch_eq new w h, ih, carried_carried]
    · congr 1
      funext v
      show (v == w && _ || decide (v ∈ l) && decide (s.notice.entries.get v ≠ new.get v)) = _
      simp only [← Bool.and_or_distrib_right, List.mem_cons, Bool.decide_or, beq_eq_decide]
    · exact h.sublist ((List.filter_sublist).map _)

end Carried

/-- The work of a watch changes no watch entry. -/
theorem evaluateLevel_entries (n : Word16) (w : WatchNo) (s : State) :
    (evaluateLevel n w s).notice.entries = s.notice.entries := by
  unfold evaluateLevel
  dsimp only
  split
  · split
    · split
      · exact withdraw_entries w s
      · rfl
    · split
      · exact takeOccurrence_entries ..
      · rfl
  · rfl

theorem foldl_evaluateLevel_entries (n : Word16) (l : List WatchNo) (s : State) :
    (l.foldl (fun s w => evaluateLevel n w s) s).notice.entries = s.notice.entries := by
  induction l generalizing s with
  | nil => rfl
  | cons w l ih => rw [List.foldl_cons, ih, evaluateLevel_entries]

/-- R53, R54: the work of a cycle start on the old entries. -/
def noticeCycleWork (n : Word16) (rest : List CycleStart) (s : State) : State :=
  (indices 48).foldl (fun s w => evaluateLevel n w s) (lowerHoldoffs
    { s with notice := { s.notice with inbox := rest, pointReports := s.notice.pointReports.map oneCloser } })

section Cycles

variable {k : Word32} {s : State}

theorem noticeCycleWork_entries (n : Word16) (rest : List CycleStart) :
    (noticeCycleWork n rest s).notice.entries = s.notice.entries := by
  rw [noticeCycleWork, foldl_evaluateLevel_entries]
  rfl

theorem raisingOk_noticeCycleWork (n : Word16) (rest : List CycleStart) (h : RaisingOk k s.notice) :
    RaisingOk k (noticeCycleWork n rest s).notice := by
  have hinbox : RaisingOk k { s.notice with
      inbox := rest, pointReports := s.notice.pointReports.map oneCloser } := ⟨h.queue.same rfl rfl rfl, h.account⟩
  unfold noticeCycleWork
  generalize indices 48 = l
  exact raisingOk_foldl (fun s w => raisingOk_evaluateLevel n w) l (raisingOk_lowerHoldoffs hinbox)

/-- R68: what a swap does to the raising side. -/
theorem noticeApplySwap_eq (new : Tab 48 WatchEntry) (h : (s.notice.queue.map (·.watch)).Nodup) :
    noticeApplySwap new s =
      let t := carried (fun w => decide (s.notice.entries.get w ≠ new.get w)) s
      { t with notice := { t.notice with entries := new } } := by
  have hall : (fun w => decide (w ∈ indices 48) && decide (s.notice.entries.get w ≠ new.get w)) =
      fun w => decide (s.notice.entries.get w ≠ new.get w) := by
    funext w
    rw [decide_eq_true (mem_indices w), Bool.true_and]
  rw [noticeApplySwap, foldl_carryWatch new _ s h, hall]

theorem raisingOk_noticeApplySwap (new : Tab 48 WatchEntry) (h : RaisingOk k s.notice) :
    RaisingOk k (noticeApplySwap new s).notice := by
  rw [noticeApplySwap_eq new h.queue.single]
  generalize hgone : (fun w => decide (s.notice.entries.get w ≠ new.get w)) = gone
  have hkept : ∀ w, gone w = false → s.notice.entries.get w = new.get w := fun w hw => by
    rw [← hgone] at hw; simpa using hw
  have hsub : (s.notice.queue.filter fun m => !gone m.watch).Sublist s.notice.queue := List.filter_sublist
  refine ⟨⟨hsub.length_le.trans h.queue.room, h.queue.sorted.sublist hsub, h.queue.single.sublist (hsub.map _),
    fun w => ?_, fun w hoff => ?_⟩, ?_⟩
  · show ((Tab.ofFn fun w => if gone w then initialWatch else s.notice.records.get w).get w).queued = true ↔
      w ∈ (s.notice.queue.filter fun m => !gone m.watch).map (·.watch)
    have hmem : w ∈ (s.notice.queue.filter fun m => !gone m.watch).map (·.watch) ↔
        w ∈ s.notice.queue.map (·.watch) ∧ gone w = false := by
      simp only [List.mem_map, List.mem_filter, Bool.not_eq_true']
      constructor
      · rintro ⟨m, ⟨hm, hg⟩, rfl⟩; exact ⟨⟨m, hm, rfl⟩, hg⟩
      · rintro ⟨⟨m, hm, rfl⟩, hg⟩; exact ⟨m, ⟨hm, hg⟩, rfl⟩
    rw [get_ofFn, hmem, ← h.queue.marked w]
    cases gone w <;> simp [initialWatch]
  · show (Tab.ofFn fun w => if gone w then initialWatch else s.notice.records.get w).get w = initialWatch
    rw [get_ofFn]
    cases hg : gone w with
    | true => rfl
    | false => exact h.queue.disabled w (by rw [hkept w hg]; exact hoff)
  · show s.notice.raised = _ + _ + (s.notice.withdrawn + BitVec.ofNat 32 (s.notice.queue.countP fun m => gone m.watch)) +
      BitVec.ofNat 32 (s.notice.queue.filter fun m => !gone m.watch).length + k
    have hsplit := List.length_eq_countP_add_countP (fun m : Notice => gone m.watch) (l := s.notice.queue)
    have hrest : (s.notice.queue.filter fun m => !gone m.watch).length =
        s.notice.queue.countP fun m => ¬(gone m.watch = true) := by
      rw [← List.countP_eq_length_filter]; congr 1; funext m; simp
    have haccount := h.account
    unfold Balanced at haccount
    rw [hsplit, BitVec.ofNat_add] at haccount
    rw [hrest, haccount]
    ac_rfl

theorem noticeCycle_eq (c : CycleStart) (rest : List CycleStart) (s : State) : noticeCycle c rest s =
    match c.swap with
    | none => noticeCycleWork c.count rest s
    | some w => noticeApplySwap w.bank.watches (noticeCycleWork c.count rest s) := rfl

theorem raisingOk_noticeCycle (c : CycleStart) (rest : List CycleStart) (h : RaisingOk k s.notice) :
    RaisingOk k (noticeCycle c rest s).notice := by
  have hwork := raisingOk_noticeCycleWork c.count rest h
  rw [noticeCycle_eq]
  split
  · exact hwork
  · exact raisingOk_noticeApplySwap _ hwork

end Cycles

/-- Settles O30: the swap carries the watches over in the state that the cycle start without it leaves. -/
theorem swapsWithdrawTheNoticesOfChangedWatches : Obligations.SwapsWithdrawTheNoticesOfChangedWatches := by
  intro s u n w rest free hinv hinbox hu kept
  obtain ⟨hraising, -⟩ := (noticesInv_iff s).1 hinv
  have hplain : exec .noticeCycleStart { s with notice := { s.notice with inbox := ⟨n, none⟩ :: rest } } =
      .next (noticeCycleWork n rest s) := by
    rw [exec_noticeCycleStart (c := ⟨n, none⟩) (rest := rest) (by exact free) rfl, noticeCycle_eq]
    rfl
  have hwork := raisingOk_noticeCycleWork (s := s) n rest hraising
  have hentries := noticeCycleWork_entries (s := s) n rest
  have hcycle : noticeCycle ⟨n, some w⟩ rest s = noticeApplySwap w.bank.watches (noticeCycleWork n rest s) := rfl
  rw [exec_noticeCycleStart free hinbox, hcycle]
  rw [Host.Outcome.next.inj (hplain.symm.trans hu)] at hwork hentries ⊢
  have hqueue : (u.notice.queue.filter fun m => !decide (s.notice.entries.get m.watch ≠ w.bank.watches.get m.watch)) =
      u.notice.queue.filter fun m => kept m.watch := by
    congr 1; funext m; simp [kept]
  have hrecords : (Tab.ofFn fun x => if decide (s.notice.entries.get x ≠ w.bank.watches.get x) then initialWatch
      else u.notice.records.get x) = Tab.ofFn fun x => if kept x then u.notice.records.get x else ⟨0, false, 0⟩ :=
    tab_ext fun x => by simp only [get_ofFn, kept, decide_eq_true_eq, ne_eq, ite_not]; rfl
  rw [noticeApplySwap_eq _ hwork.queue.single, hentries, ← hqueue, ← hrecords]
  rfl

end Sys2Proof.Machine

/-! PROOFS. The notices' invariant under every step: deliveries, acknowledgements, resets (chapter 3.7, R67; chapter 4,
R76 to R83). -/

namespace Sys2Proof.Machine

/-! ### Retries -/

section Retries

variable {k : Word32}

/-- R77, R78: one record at a cycle start: it keeps its number, or is lost. -/
theorem retryRecord_keeps (f : FlightRecord) {s : State} (h : RaisingOk (k + 1) s.notice) :
    RaisingOk (k + BitVec.ofNat 32 (retryRecord f s).1.toList.length) (retryRecord f s).2.notice ∧
      ((retryRecord f s).1.toList.map (·.sequence)).Sublist [f.sequence] := by
  unfold retryRecord
  split
  · split
    · split
      · exact ⟨h, .refl _⟩
      · exact ⟨h, .refl _⟩
    · refine ⟨?_, List.nil_sublist _⟩
      show RaisingOk (k + 0) (countLost s).notice
      rw [add_zero]
      exact raisingOk_countLost h
  · exact ⟨h, .refl _⟩

theorem retryAll_keeps (l : List FlightRecord) {s : State} (h : RaisingOk (k + BitVec.ofNat 32 l.length) s.notice) :
    RaisingOk (k + BitVec.ofNat 32 (retryAll l s).1.length) (retryAll l s).2.notice ∧
      ((retryAll l s).1.map (·.sequence)).Sublist (l.map (·.sequence)) := by
  induction l generalizing k s with
  | nil => exact ⟨h, .refl _⟩
  | cons f l ih =>
    rw [List.length_cons, BitVec.ofNat_add, ← add_assoc] at h
    obtain ⟨hone, hsub⟩ := retryRecord_keeps f h
    rw [add_right_comm] at hone
    obtain ⟨hrest, hmore⟩ := ih hone
    refine ⟨?_, ?_⟩
    · show RaisingOk (k + BitVec.ofNat 32 ((retryRecord f s).1.toList ++ (retryAll l (retryRecord f s).2).1).length) _
      rw [List.length_append, BitVec.ofNat_add, ← add_assoc]
      exact hrest
    · show (((retryRecord f s).1.toList ++ (retryAll l (retryRecord f s).2).1).map _).Sublist ([f.sequence] ++ l.map _)
      rw [List.map_append]
      exact hsub.append hmore

end Retries

theorem noticesInv_retries {s : State} (h : NoticesInv s) : NoticesInv (retries s) := by
  obtain ⟨hraising, hlength, hnodup⟩ := (noticesInv_iff s).1 h
  rw [← BitVec.zero_add (BitVec.ofNat 32 _)] at hraising
  obtain ⟨hkept, hsub⟩ := retryAll_keeps s.delivery.inFlight hraising
  rw [BitVec.zero_add] at hkept
  have hshorter := hsub.length_le
  rw [List.length_map, List.length_map] at hshorter
  exact (noticesInv_iff _).2 ⟨hkept, hshorter.trans hlength, hnodup.sublist hsub⟩

/-! ### Emission -/

theorem raisingOk_emitNotice {k : Word32} {n : Notice} {s : State} (h : RaisingOk k s.notice)
    (hn : n ∈ s.notice.queue) : RaisingOk (k + 1) (emitNotice n s).notice := by
  obtain ⟨l, l', -, hq, herase⟩ := List.exists_erase_eq hn
  have haccount := h.account
  unfold Balanced at haccount
  rw [hq, length_remove] at haccount
  rw [emitNotice_eq, herase]
  refine ⟨h.queue.remove hq, ?_⟩
  show s.notice.raised = _ + _ + _ + BitVec.ofNat 32 (l ++ l').length + (k + 1)
  rw [haccount]
  ac_rfl

theorem noticesInv_emitNotice {n : Notice} {s : State} (h : NoticesInv s) (hn : n ∈ s.notice.queue)
    (hroom : s.delivery.inFlight.length < 8) : NoticesInv (emitNotice n s) := by
  obtain ⟨hraising, hlength, hnodup⟩ := (noticesInv_iff s).1 h
  have hfree : nextSequence s ∉ s.delivery.inFlight.map (·.sequence) :=
    (nextSequenceNumberIsTheFirstFree s (by omega)).1
  have hdelivery : (emitNotice n s).delivery.inFlight = s.delivery.inFlight ++
      [⟨n, nextSequence s, s.delivery.retryInterval, s.delivery.attempts, 0⟩] := by rw [emitNotice_eq]
  rw [noticesInv_iff, hdelivery]
  refine ⟨?_, ?_, ?_⟩
  · rw [List.length_append, BitVec.ofNat_add]
    exact raisingOk_emitNotice hraising hn
  · rw [List.length_append, List.length_singleton]
    omega
  · rw [List.map_append, List.map_singleton, List.nodup_append]
    refine ⟨hnodup, List.nodup_singleton _, fun a ha b hb => ?_⟩
    rw [List.mem_singleton.1 hb]
    rintro rfl
    exact hfree ha

theorem noticesInv_emitUpTo (k : Nat) {s : State} (h : NoticesInv s) : NoticesInv (emitUpTo k s) := by
  induction k generalizing s with
  | zero => exact h
  | succ k ih =>
    unfold emitUpTo
    split
    · exact h
    · next n hnext =>
      split
      · next htest =>
        exact ih (noticesInv_emitNotice h (List.mem_of_find?_eq_some hnext) ((emissionRoom_iff s).1 htest).1)
      · exact h

theorem noticesInv_deliveryCycle (rest : List CycleStart) {s : State} (h : NoticesInv s) :
    NoticesInv (deliveryCycle rest s) :=
  noticesInv_emitUpTo _ (noticesInv_retries (s := { s with delivery := { s.delivery with inbox := rest } }) h)

/-! ### Acknowledgements -/

theorem noticesInv_ackAll (l : List Byte) {s : State} (h : NoticesInv s) : NoticesInv (ackAll l 0 s).2 := by
  obtain ⟨hraising, hlength, hnodup⟩ := (noticesInv_iff s).1 h
  have hle := length_unlisted_le l s.delivery.inFlight
  have hsplit : BitVec.ofNat 32 s.delivery.inFlight.length =
      BitVec.ofNat 32 (s.delivery.inFlight.length - (unlisted l s.delivery.inFlight).length) +
        BitVec.ofNat 32 (unlisted l s.delivery.inFlight).length := by
    rw [← BitVec.ofNat_add, Nat.sub_add_cancel hle]
  have haccount := hraising.account
  unfold Balanced at haccount
  rw [hsplit] at haccount
  rw [ackAll_state l 0 hnodup, noticesInv_iff]
  refine ⟨⟨hraising.queue.same rfl rfl rfl, ?_⟩, hle.trans hlength, nodup_sequences_unlisted l hnodup⟩
  show s.notice.raised = (s.notice.acknowledged + _) + _ + _ + _ + BitVec.ofNat 32 (unlisted l s.delivery.inFlight).length
  rw [haccount]
  ac_rfl

/-! ### The statement -/

theorem NoticesInv.outer {s t : State} (h : NoticesInv s) (hw : OuterWrites s t) : NoticesInv t := by
  obtain ⟨c, p, q, b, e, rfl⟩ := hw
  exact h

theorem noticesInv_offerToTaps (p : Port) (c : Cell) {s : State} (h : NoticesInv s) :
    NoticesInv (offerToTaps p c s) := by
  unfold offerToTaps
  dsimp only
  split
  · exact h
  · split
    · exact h.outer (outerWrites_onPort ..)
    · exact h

theorem noticesInv_receiveCell (p : Port) (raw : RawCell) {s : State} (h : NoticesInv s) :
    NoticesInv (receiveCell p raw s) := by
  obtain hw | ⟨t, hst, hw⟩ := receiveCell_writes p s raw
  · exact h.outer hw
  · exact (noticesInv_offerToTaps p _ (h.outer hst)).outer hw

/-- The work of the raising side keeps the delivery side's records. -/
theorem NoticesInv.raising {s t : State} (h : NoticesInv s) (hw : NoticeWrites s t)
    (hraising : ∀ k, RaisingOk k s.notice → RaisingOk k t.notice) : NoticesInv t := by
  obtain ⟨hok, hrest⟩ := (noticesInv_iff s).1 h
  have hkept := hraising _ hok
  obtain ⟨u, i, rfl⟩ := hw
  exact (noticesInv_iff _).2 ⟨hkept, hrest⟩

section Reports

variable {k : Word32} {s : State}

theorem raisingOk_takeTapReport (r : TapReport) (rest : List TapReport) (h : RaisingOk k s.notice) :
    RaisingOk k (noticeTakeTapReport r rest s).notice := by
  unfold noticeTakeTapReport offerTapReport
  generalize indices 48 = l
  refine raisingOk_foldl (fun s w h => ?_) l ⟨h.queue.same rfl rfl rfl, h.account⟩
  dsimp only
  split
  · next hwatch => exact raisingOk_offerToWatch w _ _ _ _ h ((watches_iff ..).1 hwatch).1
  · exact h

theorem raisingOk_takePointReport (r : PointReport) (rest : List WaitingReport) (h : RaisingOk k s.notice) :
    RaisingOk k (noticeTakePointReport r rest s).notice := by
  unfold noticeTakePointReport offerPointReport
  generalize indices 48 = l
  refine raisingOk_foldl (fun s w h => ?_) l ⟨h.queue.same rfl rfl rfl, h.account⟩
  dsimp only
  split
  · next hwatch => exact raisingOk_offerToWatch w _ _ _ _ h ((watches_iff ..).1 hwatch).1
  · exact h

end Reports

theorem noticesInv_resetPartAs (k : ResetCause) (s : State) : NoticesInv (resetPartAs k s) := by
  refine ⟨Nat.zero_le _, List.Pairwise.nil, List.nodup_nil, fun w => ?_, fun w _ => get_fill initialWatch w,
    Nat.zero_le _, List.nodup_nil, ?_⟩
  · show ((Tab.fill 48 initialWatch).get w).queued = true ↔ w ∈ []
    rw [get_fill]
    exact iff_of_false Bool.false_ne_true List.not_mem_nil
  · rfl

theorem noticesInv_ran {r : Request} {s t : State} (h : NoticesInv s) (hran : Ran r s t) : NoticesInv t := by
  cases hran with
  | acknowledged l => exact noticesInv_ackAll l h
  | read | cleared | resetPending | configured | opened | renewed | written | committed | aborted | gated
  | deliverySet | forced => exact h

theorem noticesInv_work {c : Instr} {s t : State} (h : NoticesInv s) (hwork : Work c s t) : NoticesInv t := by
  cases hwork with
  | cell p raw => exact noticesInv_receiveCell p raw h
  | expiry => exact h.outer (outerWrites_timerExpiry s)
  | tick => exact h.outer (outerWrites_clockTick s)
  | pick p => exact h.outer (outerWrites_transmitterPick p s)
  | tapCycle | xcReport | validation => exact h
  | @xcCycle _ _ x rest => cases hswap : x.swap <;> simp only [xcCycle, hswap] <;> exact h
  | @watchTap _ _ x rest => exact h.raising (noticeWrites_takeTapReport ..) fun k => raisingOk_takeTapReport x rest
  | @watchPoint _ _ x rest =>
    exact h.raising (noticeWrites_takePointReport ..) fun k => raisingOk_takePointReport x rest
  | @noticeCycle _ _ x rest => exact h.raising (noticeWrites_noticeCycle ..) fun k => raisingOk_noticeCycle x rest
  | @deliveryCycle _ _ x rest => exact noticesInv_deliveryCycle rest h
  | @publisherReport _ _ x rest => obtain ⟨u, p, q, he⟩ := publisherWrites_takeReport x rest s; rw [he]; exact h
  | @publisherCycle _ _ x rest => obtain ⟨u, p, q, he⟩ := publisherWrites_publisherCycle x rest s; rw [he]; exact h
  | @bankCycle _ _ n rest =>
    obtain he | ⟨shadow, -, -, he⟩ := bankCycle_cases n rest s <;> rw [he] <;> exact h
  | @request _ _ t r a _ _ hran =>
    have htaken : NoticesInv (dequeued r s) := h
    have hdone : NoticesInv t := noticesInv_ran htaken hran
    exact hdone

/-- Settles O58: every way of a notice into, within and out of the queue and the list in flight is accounted for. -/
theorem stepsKeepTheNoticesInOrder : Obligations.StepsKeepTheNoticesInOrder := by
  refine step_keeps (fun _ _ h => h) fun c s t h hexec => ?_
  cases event_of_exec hexec with
  | nothing | lineHeld => exact h
  | powerOn straps => exact noticesInv_resetPartAs .powerOn _
  | lineReleased straps => exact noticesInv_resetPartAs .resetLine _
  | signalGained p => exact h.outer (outerWrites_onPort ..)
  | signalLost p => exact h.outer (outerWrites_loseSignal p s)
  | reset k => exact noticesInv_resetPartAs k s
  | work _ hwork => exact noticesInv_work h hwork

end Sys2Proof.Machine

/-! PROOFS. The interval timer: what an expiry does by the cycle state, and the ticks that lead to it (chapter 6, R103,
R106, R107, R109, R110). -/

namespace Sys2Proof.Machine

/-! ### Expiries -/

section Expiries

variable {s : State}

theorem exec_intervalTimerExpiry (free : s.resetLine = false) :
    exec .intervalTimerExpiry s = .next (timerExpiry s) :=
  congrArg Host.Outcome.next (unlessHeld_free free _)

/-- R106: whether an expiry enters HOLDOVER. -/
theorem entersHoldover_iff (c : CycleTiming) : entersHoldover c = true ↔ c.state = .following ∧
    c.established = true ∧ 0 < c.watchLimit ∧ c.watchLimit ≤ min 255 (c.missed + 1) := by
  simp [entersHoldover, countMissed, and_assoc]

theorem exec_enterHoldover (free : s.resetLine = false) (h : entersHoldover s.cycle = true) :
    exec .enterHoldover s = .next (timerExpiry s) := by
  show Host.Outcome.next (if entersHoldover s.cycle then unlessHeld s (timerExpiry s) else s) = _
  rw [if_pos h, unlessHeld_free free]

/-- R106: an expiry that enters HOLDOVER. -/
theorem timerExpiry_enters (h : entersHoldover s.cycle = true) :
    timerExpiry s = holdoverEntry (s.onCycle reloadTimer) := by
  have hstate : (s.onCycle reloadTimer).cycle.state = .following := ((entersHoldover_iff _).1 h).1
  have henters : entersHoldover (s.onCycle reloadTimer).cycle = true := h
  simp only [timerExpiry, hstate, henters, if_true]

/-- R103, R106: any other expiry in FOLLOWING. -/
theorem timerExpiry_following (hs : s.cycle.state = .following) (h : ¬entersHoldover s.cycle = true) :
    timerExpiry s = if s.cycle.established then (s.onCycle reloadTimer).onCycle countMissed
      else s.onCycle reloadTimer := by
  have hstate : (s.onCycle reloadTimer).cycle.state = .following := hs
  have hnot : ¬entersHoldover (s.onCycle reloadTimer).cycle = true := h
  simp only [timerExpiry, hstate, if_neg hnot]
  rfl

theorem timerExpiry_holdover (hs : s.cycle.state = .holdover) :
    timerExpiry s = holdoverStart ((s.onCycle reloadTimer).onCycle countMissed) := by
  have hstate : (s.onCycle reloadTimer).cycle.state = .holdover := hs
  simp only [timerExpiry, hstate]

theorem timerExpiry_originating (hs : s.cycle.state = .originating) :
    timerExpiry s = originatingStart (s.onCycle reloadTimer) := by
  have hstate : (s.onCycle reloadTimer).cycle.state = .originating := hs
  simp only [timerExpiry, hstate]

theorem placeOwnCycle_eq (p : Port) (holdover : Bool) (s : State) : placeOwnCycle p holdover s =
    s.setPort p (cyclePlacedFor (makeCycleCell s.engine.station holdover s.cycle.count) (s.port p)) := by
  rw [placeOwnCycle, onPort_eq, placeCycle_eq]

end Expiries

/-- Settles O18: the cycle state, the mark and the missed count select what an expiry does. -/
theorem expiriesActByTheCycleState : Obligations.ExpiriesActByTheCycleState := by
  intro s free c missed enters reloaded cell started
  have henters : enters ↔ entersHoldover s.cycle = true := (entersHoldover_iff _).symm
  rw [exec_intervalTimerExpiry free]
  refine ⟨fun hs hmark => ?unmarked, fun hs hmark hno => ?missed, fun h => ?enters, fun hs => ?holdover,
    fun hs => ?originating⟩
  case unmarked =>
    have hno : ¬entersHoldover s.cycle = true := fun h =>
      Bool.false_ne_true (hmark.symm.trans ((entersHoldover_iff _).1 h).2.1)
    rw [timerExpiry_following hs hno, if_neg (by simpa using hmark)]
    rfl
  case missed =>
    rw [timerExpiry_following hs (mt henters.2 hno), if_pos hmark]
    rfl
  case enters =>
    have hmark : s.cycle.established = true := h.2.1
    rw [exec_enterHoldover free (henters.1 h), and_self, timerExpiry_enters (henters.1 h), holdoverEntry, holdoverStart,
      placeOwnCycle_eq]
    simp only [reloaded, c, hmark]
    rfl
  case holdover =>
    rw [timerExpiry_holdover hs, holdoverStart, placeOwnCycle_eq]
    rfl
  case originating =>
    rw [timerExpiry_originating hs, originatingStart, placeOwnCycle_eq, placeOwnCycle_eq]
    rfl

/-! ### Ticks -/

/-- One more of a command after others. -/
theorem repeated_succ {c : Instr} {n : Nat} {s t : State} (h : repeated c n s = .next t) :
    repeated c (n + 1) s = exec c t := by
  induction n generalizing s with
  | zero =>
    obtain rfl := Host.Outcome.next.inj h
    obtain ⟨u, hu, -⟩ := exec_event c s
    simp only [repeated, hu]
  | succ n ih =>
    obtain ⟨u, hu, -⟩ := exec_event c s
    simp only [repeated, hu] at h ih ⊢
    exact ih h

/-- R103: `n` ticks into an interval of D and T. -/
def ticked (n : Nat) (s : State) : State :=
  { s with cycle := { s.cycle with
      prescaleCount := s.cycle.divide - n % (s.cycle.divide + 1)
      periodCount := s.cycle.period - n / (s.cycle.divide + 1) } }

/-- R103: a tick within one run of the prescale counter. -/
theorem succ_div_mod_within {n d : Nat} (h : n % (d + 1) < d) :
    (n + 1) / (d + 1) = n / (d + 1) ∧ (n + 1) % (d + 1) = n % (d + 1) + 1 := by
  have hsplit := Nat.mod_add_div n (d + 1)
  have hnext : n % (d + 1) + 1 + (d + 1) * (n / (d + 1)) = n + 1 := by omega
  exact (Nat.div_mod_unique (Nat.succ_pos d)).2 ⟨hnext, by omega⟩

/-- R103: the tick that ends a run of the prescale counter. -/
theorem succ_div_mod_across {n d : Nat} (h : n % (d + 1) = d) :
    (n + 1) / (d + 1) = n / (d + 1) + 1 ∧ (n + 1) % (d + 1) = 0 := by
  have hsplit := Nat.mod_add_div n (d + 1)
  have hnext : 0 + (d + 1) * (n / (d + 1) + 1) = n + 1 := by rw [Nat.mul_add]; omega
  exact (Nat.div_mod_unique (Nat.succ_pos d)).2 ⟨hnext, Nat.succ_pos d⟩

section Ticks

variable {s : State} {n : Nat}

theorem exec_tick (free : s.resetLine = false) : exec .referenceClockTick (ticked n s) = .next (clockTick (ticked n s)) :=
  congrArg Host.Outcome.next (unlessHeld_free (s := ticked n s) free _)

/-- R103: the prescale counter goes down by one. -/
theorem clockTick_lowers (h : n % (s.cycle.divide + 1) < s.cycle.divide) : clockTick (ticked n s) = ticked (n + 1) s := by
  have hpos : 0 < (ticked n s).cycle.prescaleCount := Nat.sub_pos_of_lt h
  obtain ⟨hdiv, hmod⟩ := succ_div_mod_within h
  rw [clockTick, if_pos hpos, ticked, ticked, hdiv, hmod, ← Nat.sub_sub]
  rfl

/-- R103: the prescale counter reloads, and the period counter goes down by one. -/
theorem clockTick_reloads (h : n % (s.cycle.divide + 1) = s.cycle.divide)
    (hmore : 1 < s.cycle.period - n / (s.cycle.divide + 1)) : clockTick (ticked n s) = ticked (n + 1) s := by
  have hzero : ¬0 < (ticked n s).cycle.prescaleCount := by
    show ¬0 < s.cycle.divide - n % (s.cycle.divide + 1)
    omega
  have hperiod : 1 < (ticked n s).cycle.periodCount := hmore
  obtain ⟨hdiv, hmod⟩ := succ_div_mod_across h
  rw [clockTick, if_neg hzero, if_pos hperiod, ticked, ticked, hdiv, hmod, ← Nat.sub_sub]
  rfl

/-- R103: the last tick is the expiry, which reloads both counters. -/
theorem clockTick_expires (h : n % (s.cycle.divide + 1) = s.cycle.divide)
    (hlast : s.cycle.period - n / (s.cycle.divide + 1) ≤ 1) : clockTick (ticked n s) = timerExpiry s := by
  have hzero : ¬0 < (ticked n s).cycle.prescaleCount := by
    show ¬0 < s.cycle.divide - n % (s.cycle.divide + 1)
    omega
  have hperiod : ¬1 < (ticked n s).cycle.periodCount := Nat.not_lt.2 hlast
  rw [clockTick, if_neg hzero, if_neg hperiod]
  rfl

/-- R103: the ticks of an interval up to its last. -/
theorem repeated_ticks (free : s.resetLine = false) (hd : s.cycle.prescaleCount = s.cycle.divide)
    (ht : s.cycle.periodCount = s.cycle.period) (h : n < (s.cycle.divide + 1) * s.cycle.period) :
    repeated .referenceClockTick n s = .next (ticked n s) := by
  induction n with
  | zero =>
    have hstart : ticked 0 s = s := by
      rw [ticked, Nat.zero_mod, Nat.zero_div, Nat.sub_zero, Nat.sub_zero]
      exact congrArg₂ (fun a b => { s with cycle := { s.cycle with prescaleCount := a, periodCount := b } })
        hd.symm ht.symm
    rw [hstart]; rfl
  | succ n ih =>
    rw [repeated_succ (ih (by omega)), exec_tick free]
    refine congrArg _ ?_
    have hbound : (n + 1) / (s.cycle.divide + 1) < s.cycle.period := Nat.div_lt_of_lt_mul h
    have hmod : n % (s.cycle.divide + 1) < s.cycle.divide + 1 := Nat.mod_lt n (Nat.succ_pos _)
    obtain hlow | hreload := Nat.lt_or_ge (n % (s.cycle.divide + 1)) s.cycle.divide
    · exact clockTick_lowers hlow
    · have heq : n % (s.cycle.divide + 1) = s.cycle.divide := by omega
      rw [(succ_div_mod_across heq).1] at hbound
      exact clockTick_reloads heq (by omega)

end Ticks

/-- Settles O19: the ticks up to the last lower the counters, and the last finds both run down. -/
theorem expiryComesAtTheLastTickOfTheInterval : Obligations.ExpiryComesAtTheLastTickOfTheInterval := by
  intro s free hd ht hpos
  refine ⟨fun n hn => repeated_ticks free hd ht hn, ?_⟩
  obtain ⟨n, hn⟩ : ∃ n, (s.cycle.divide + 1) * s.cycle.period = n + 1 :=
    Nat.exists_eq_succ_of_ne_zero (Nat.mul_ne_zero (Nat.succ_ne_zero _) (by omega))
  rw [hn, repeated_succ (repeated_ticks free hd ht (by omega)), exec_tick free, exec_intervalTimerExpiry free]
  have hdiv : (n + 1) / (s.cycle.divide + 1) = s.cycle.period := by rw [← hn, Nat.mul_div_cancel_left _ (Nat.succ_pos _)]
  have hmod : (n + 1) % (s.cycle.divide + 1) = 0 := by rw [← hn, Nat.mul_mod_right]
  have hrun : n % (s.cycle.divide + 1) = s.cycle.divide := by
    have hlt : n % (s.cycle.divide + 1) < s.cycle.divide + 1 := Nat.mod_lt n (Nat.succ_pos _)
    by_contra hne
    have hwithin := (succ_div_mod_within (n := n) (d := s.cycle.divide) (by omega)).2
    omega
  rw [(succ_div_mod_across hrun).1] at hdiv
  rw [clockTick_expires hrun (by omega)]

end Sys2Proof.Machine

/-! PROOFS. The tap unit takes a cycle start (chapter 1, R15, R16, R18, R21). -/

namespace Sys2Proof.Machine

section TapCycle

variable {e : TapEntry} {r : TapRecord}

/-- R16: whether an enabled tap goes STALE at a cycle start. -/
abbrev GoesStale (e : TapEntry) (r : TapRecord) : Prop :=
  e.enabled = true ∧ e.stale ≠ 0 ∧ (r.cond = .live ∨ r.cond = .suspect) ∧ e.stale ≤ min 255 (r.age + 1)

theorem goesStale_iff : GoesStale e r ↔ e.enabled = true ∧ staleNow e (aged r) = true := by
  simp [GoesStale, staleNow, aged, and_assoc]

theorem tapCycle_disabled (h : e.enabled = false) : tapCycle e r = r := by
  rw [tapCycle, if_neg (by simp [h])]

theorem tapCycle_stale (h : GoesStale e r) : tapCycle e r = goStale (aged r) := by
  obtain ⟨hon, hstale⟩ := goesStale_iff.1 h
  rw [tapCycle, if_pos hon, if_pos hstale]

theorem tapCycle_aged (hon : e.enabled = true) (h : ¬GoesStale e r) : tapCycle e r = aged r := by
  rw [tapCycle, if_pos hon, if_neg fun hs => h (goesStale_iff.2 ⟨hon, hs⟩)]

/-- R18: of the value and the condition of a tap, a cycle start moves the condition alone, and that to STALE. -/
theorem tapFace_tapCycle : tapFace (tapCycle e r) = if GoesStale e r then ⟨r.qualified, .stale⟩ else tapFace r := by
  split
  · next h => rw [tapCycle_stale h]; rfl
  · next h =>
    cases hon : e.enabled with
    | false => rw [tapCycle_disabled hon]
    | true => rw [tapCycle_aged hon h]; rfl

end TapCycle

section Taking

variable {s : State} {c : CycleStart} {rest : List CycleStart}

theorem tapUnitTakes_eq (free : s.resetLine = false) (h : s.tap.inbox = c :: rest) :
    tapUnitTakes s = tapUnitCycle c rest s := by
  rw [tapUnitTakes, h]
  exact unlessHeld_free free _

/-- R18, R21: the report that a tap makes at a cycle start. -/
theorem tapCycleReport_eq_some {old : Tab 192 TapEntry} {t : TapNo} {r : TapRecord} {x : TapReport} :
    tapCycleReport c old t r = some x ↔ old.get t = (tapEntriesAfter c old).get t ∧
      GoesStale ((tapEntriesAfter c old).get t) r ∧ x = ⟨t, tapFace r, ⟨r.qualified, .stale⟩, false⟩ := by
  unfold tapCycleReport
  split
  · next hkept =>
    rw [tapReport_eq_some, tapAfter, if_pos hkept, tapFace_tapCycle]
    split
    · next hstale =>
      have hne : tapFace r ≠ ⟨r.qualified, .stale⟩ := fun heq => by
        have hcond : r.cond = .stale := congrArg TapFace.cond heq
        obtain ⟨-, -, hc | hc, -⟩ := hstale <;> rw [hc] at hcond <;> cases hcond
      exact ⟨fun hx => ⟨hkept, hstale, hx.1⟩, fun hx => ⟨hx.2.2, hne⟩⟩
    · next hstale => exact iff_of_false (fun hx => hx.2 rfl) fun hx => hstale hx.2.1
  · next hchanged => exact iff_of_false (fun hx => by cases hx) fun hx => hchanged hx.1

theorem tapCycleReport_tap {old : Tab 192 TapEntry} {t : TapNo} {r : TapRecord} {x : TapReport}
    (h : tapCycleReport c old t r = some x) : x.tap = t := by
  rw [(tapCycleReport_eq_some.1 h).2.2]

theorem tapWillGoStale_of {t : TapNo} (h : s.tap.inbox = c :: rest)
    (hkept : s.tap.entries.get t = (tapEntriesAfter c s.tap.entries).get t)
    (hstale : GoesStale ((tapEntriesAfter c s.tap.entries).get t) (s.tap.records.get t)) :
    tapWillGoStale s t = true := by
  rw [← hkept] at hstale
  obtain ⟨hon, hnow⟩ := goesStale_iff.1 hstale
  unfold tapWillGoStale
  rw [h]
  simp only [← hkept, hon, hnow, beq_self_eq_true, Bool.and_true]

end Taking

/-- Settles O20: whether a tap's entry is kept, and whether it goes STALE, select its record and its report. -/
theorem cycleStartsAgeTapsAndMakeThemStale : Obligations.CycleStartsAgeTapsAndMakeThemStale := by
  intro s c rest free h old new stale
  have hnew : new = tapEntriesAfter c old := rfl
  have htakes := tapUnitTakes_eq free h
  have hrecord : ∀ t, (Tab.ofFn fun t => tapAfter c old t (s.tap.records.get t)).get t =
      if old.get t = new.get t then tapCycle (new.get t) (s.tap.records.get t) else initialTap (new.get t) := fun t => by
    rw [get_ofFn]; rfl
  refine ⟨Tab.ofFn fun t => tapAfter c old t (s.tap.records.get t),
    (indices 192).filterMap fun t => tapCycleReport c old t (s.tap.records.get t), tapUnitCycle c rest s, rfl,
    congrArg _ htakes, fun t hkept hstale => ?_, fun t => ⟨fun hchanged => ?_, fun hkept hoff => ?_,
    fun hkept hstale => ?_, fun hkept hon hstale => ?_⟩, fun t x y b => ?_, ?_⟩
  · show Host.Outcome.next (if h : t.val < 192 then if tapWillGoStale s ⟨t, h⟩ then tapUnitTakes s else s else s) = _
    rw [dif_pos t.isLt, if_pos (tapWillGoStale_of h hkept hstale), htakes]
  · rw [hrecord, if_neg hchanged]; rfl
  · rw [hrecord, if_pos hkept, tapCycle_disabled hoff]
  · rw [hrecord, if_pos hkept, tapCycle_stale hstale]; rfl
  · rw [hrecord, if_pos hkept, tapCycle_aged hon hstale]; rfl
  · rw [mem_reports_iff fun _ _ => tapCycleReport_tap, tapCycleReport_eq_some, TapReport.mk.injEq]
    exact and_congr_right fun _ => and_congr_right fun _ => and_iff_right rfl
  · exact pairwise_tap_filterMap fun _ _ => tapCycleReport_tap

end Sys2Proof.Machine

/-! PROOFS. The cross-connect: recomputation, tap reports, cycle starts, swaps (chapter 2, R28, R33 to R46). -/

namespace Sys2Proof.Machine

/-! ### Recomputation -/

section Recomputation

variable {s : State} {e : BindEntry} {f : Option ForceRecord} {r : PointRecord}

/-- R35, R36: what a recomputation leaves of a point's condition is what the result makes of it. -/
theorem recomputed_eq (s : State) (e : BindEntry) (f : Option ForceRecord) (r : PointRecord) :
    recomputed s e f r = countChange r (withPublished e f (applyResult e (combineResult s e) r)) := rfl

theorem publishedValue_eq (e : BindEntry) (f : Option ForceRecord) (r : PointRecord) : publishedValue e f r =
    match f with
    | some x => x.value
    | none => if r.cond = .failsafe then e.failSafe else if r.cond = .holding then r.lastGood else r.combined := by
  cases f with
  | some x => rfl
  | none => cases hc : r.cond <;> simp [publishedValue, hc]

theorem publishedQuality_iff (f : Option ForceRecord) (r : PointRecord) :
    publishedQuality f r = true ↔ f = none ∧ (r.cond = .normal ∨ r.cond = .degraded) := by
  simp [publishedQuality]

theorem applyUndefined_live (h : r.cond = .normal ∨ r.cond = .degraded) : applyUndefined e r =
    if 0 < e.hold then { r with cond := .holding, combined := r.lastGood, hold := e.hold }
    else fallToFailsafe e r := by
  obtain h | h := h <;> rw [applyUndefined, h]

theorem applyUndefined_fallen (h : r.cond = .holding ∨ r.cond = .failsafe) : applyUndefined e r = r := by
  obtain h | h := h <;> rw [applyUndefined, h]

theorem countChange_changes (b a : PointRecord) : (countChange b a).changes =
    if (countChange b a).published = b.published then b.changes else b.changes + 1 := by
  show (if b.published == a.published then b.changes else b.changes + 1) =
    if a.published = b.published then b.changes else b.changes + 1
  exact if_congr (beq_iff_eq.trans eq_comm) rfl rfl

end Recomputation

/-- Settles O22: the result, the condition and the hold select what a recomputation makes of a point. -/
theorem pointsFollowTheConditionMachine : Obligations.PointsFollowTheConditionMachine := by
  intro s e f r res after ahead usable
  have hafter : after = countChange r (withPublished e f (applyResult e res r)) := rfl
  refine ⟨⟨sourceValue s, rfl, sourceValue_eq s⟩, fun v c hres => ?defined, fun hres => ?undefined, ?published, ?quality,
    ?changes⟩
  case defined => rw [hafter, hres]; exact ⟨rfl, rfl, rfl, rfl, (combine_defined hres).1⟩
  case undefined =>
    have hcore : after = countChange r (withPublished e f (applyUndefined e r)) := by rw [hafter, hres]; rfl
    rw [hcore]
    refine ⟨?_, fun hlive => ⟨fun hpos => ?_, fun hzero => ?_⟩, fun hfallen => ?_⟩
    · show (applyUndefined e r).lastGood = r.lastGood
      unfold applyUndefined
      split
      · split <;> rfl
      · split <;> rfl
      · rfl
      · rfl
    · rw [applyUndefined_live hlive, if_pos hpos]; exact ⟨rfl, rfl, rfl⟩
    · rw [applyUndefined_live hlive, if_neg (by simp [hzero])]; exact ⟨rfl, rfl, rfl⟩
    · rw [applyUndefined_fallen hfallen]; exact ⟨rfl, rfl, rfl⟩
  case published => rw [hafter]; exact publishedValue_eq ..
  case quality => rw [hafter]; exact publishedQuality_iff ..
  case changes => rw [hafter]; exact countChange_changes ..

/-! ### Tap reports -/

/-- Settles O21: the points that list the tap are recomputed from the taps as the cross-connect finds them. -/
theorem tapReportsRecomputeTheirPoints : Obligations.TapReportsRecomputeTheirPoints := by
  intro s rep rest free h u late
  have hu : unseenAt rest s = u := unseenAt_eq rest s
  have hrecords : ∀ p, (Tab.ofFn (afterTapReport (foundAt rest s) rep.tap)).get p =
      if rep.tap ∈ (s.xc.entries.get p).sources then
        recomputed (foundAt rest s) (s.xc.entries.get p) (s.xc.forces.get p) (s.xc.records.get p)
      else s.xc.records.get p := fun p => by
    rw [get_ofFn]
    simp only [afterTapReport, List.contains_iff_mem]
    rfl
  refine ⟨(beforeReports late s.tap).records, Tab.ofFn (afterTapReport (foundAt rest s) rep.tap), _, ?_,
    beforeReports_get late s.tap, fun p hp => ?_, fun p hp => ?_, reports_of _ _⟩
  · show execXcTapReport s = _
    rw [execXcTapReport, h]
    refine congrArg _ ((unlessHeld_free free _).trans ?_)
    rw [xcTakeReport, reportPoints_eq, hu]
    simp only [get_ofFn]
    rfl
  · rw [hrecords, if_neg hp]
  · rw [hrecords, if_pos hp, foundAt, hu]
    rfl

/-! ### Cycle starts -/

section CycleStarts

variable {s : State} {c : CycleStart} {rest : List CycleStart}

theorem xcTakes_eq (free : s.resetLine = false) (h : s.xc.inbox = c :: rest) : xcTakes s = xcCycle c rest s := by
  rw [xcTakes, h]
  exact unlessHeld_free free _

theorem holdEnds_iff (r : PointRecord) : holdEnds r = true ↔ r.cond = .holding ∧ r.hold ≤ 1 := by
  simp [holdEnds]

theorem forceEnds_iff (f : Option ForceRecord) :
    forceEnds f = true ↔ ∃ x d, f = some x ∧ x.remaining = some d ∧ d ≤ 1 := by
  cases f with
  | none => simp [forceEnds]
  | some x => cases hx : x.remaining <;> simp [forceEnds, hx]

/-- HOLD_EXPIRY is the taking at which a hold ends (log entry 5). -/
theorem exec_holdExpiry (p : PointNo) (h : (s.xc.records.get p).cond = .holding ∧ (s.xc.records.get p).hold ≤ 1) :
    exec (.holdExpiry p.val) s = .next (xcTakes s) := by
  show Host.Outcome.next (if h : p.val < 128 then
    if holdEnds (s.xc.records.get ⟨p, h⟩) then xcTakes s else s else s) = _
  rw [dif_pos p.isLt, if_pos ((holdEnds_iff _).2 h)]

/-- FORCE_EXPIRY is the taking at which a force runs out (log entry 5). -/
theorem exec_forceExpiry (p : PointNo) (h : ∃ x d, s.xc.forces.get p = some x ∧ x.remaining = some d ∧ d ≤ 1) :
    exec (.forceExpiry p.val) s = .next (xcTakes s) := by
  show Host.Outcome.next (if h : p.val < 128 then
    if forceEnds (s.xc.forces.get ⟨p, h⟩) then xcTakes s else s else s) = _
  rw [dif_pos p.isLt, if_pos ((forceEnds_iff _).2 h)]

theorem forceAfter_of_ends {f : Option ForceRecord} (h : forceEnds f = true) : forceAfter f = none := by
  rw [forceAfter, if_pos h]

end CycleStarts

section Work

variable {u : State} {e : BindEntry} {f : Option ForceRecord} {r : PointRecord}

theorem holdLowered_of_holding (h : r.cond = .holding) : holdLowered r = { r with hold := r.hold - 1 } := by
  simp [holdLowered, h]

theorem holdLowered_of_not_holding (h : r.cond ≠ .holding) : holdLowered r = r := by
  simp [holdLowered, h]

theorem pointAfterWork_kept (hhold : ¬holdEnds r = true) (hforce : ¬forceEnds f = true) :
    pointAfterWork u e f r = holdLowered r := by
  rw [pointAfterWork, if_neg hhold, if_neg hforce]

theorem pointAfterWork_released (hhold : ¬holdEnds r = true) (hforce : forceEnds f = true) :
    pointAfterWork u e f r = recomputed u e none (holdLowered r) := by
  rw [pointAfterWork, if_neg hhold, if_pos hforce, forceAfter_of_ends hforce]

theorem pointAfterWork_ended (hhold : holdEnds r = true) : pointAfterWork u e f r =
    countChange r (withPublished e (forceAfter f) (applyAtExpiry e (combineResult u e) (holdLowered r))) := by
  rw [pointAfterWork, if_pos hhold]

/-- R35, R37: a hold that ends with a result defined. -/
theorem pointAfterWork_defined (hhold : holdEnds r = true) (hres : combineResult u e ≠ none) :
    pointAfterWork u e f r = recomputed u e (forceAfter f) (holdLowered r) := by
  obtain ⟨⟨v, c⟩, hsome⟩ := Option.ne_none_iff_exists'.1 hres
  have hsame : (holdLowered r).published = r.published ∧ (holdLowered r).changes = r.changes := by
    unfold holdLowered
    split <;> exact ⟨rfl, rfl⟩
  rw [pointAfterWork_ended hhold, recomputed_eq, hsome]
  simp only [countChange, hsame]
  rfl

end Work

/-- Settles O24: whether a point's hold ends, and whether its force runs out, select its record. -/
theorem cycleStartsCountHoldsAndForces : Obligations.CycleStartsCountHoldsAndForces := by
  intro s c rest free h hswap u r low expires runsOut
  have htakes : xcTakes s = xcCycleWork u := by
    rw [xcTakes_eq free h, xcCycle, hswap]
  have hends : ∀ p, holdEnds (r p) = true ↔ expires p := fun p => holdEnds_iff _
  have hruns : ∀ p, forceEnds (s.xc.forces.get p) = true ↔ runsOut p := fun p => forceEnds_iff _
  have hforces : ∀ p, (xcCycleWork u).xc.forces.get p = forceAfter (s.xc.forces.get p) := fun p => get_ofFn _ p
  have hrecords : ∀ p, (xcCycleWork u).xc.records.get p =
      pointAfterWork u (s.xc.entries.get p) (s.xc.forces.get p) (r p) := fun p => get_ofFn _ p
  refine ⟨(xcCycleWork u).xc.records, (xcCycleWork u).xc.forces, _, xcCycleWork u, rfl, congrArg _ htakes,
    fun p hp => (exec_holdExpiry p hp).trans (congrArg _ htakes),
    fun p hp => (exec_forceExpiry p hp).trans (congrArg _ htakes), fun p => ⟨fun hp => ?_, fun hp => ?_⟩,
    fun p => ⟨fun hc hp => ?_, fun hc hp => ?_, fun hc hlong hp => ?_, fun hc hlong hp => ?_, fun hx hres => ?_,
      fun hx hres => ?_⟩, ?_⟩
  · rw [hforces, forceAfter_of_ends ((hruns p).2 hp)]
  · rw [hforces, forceAfter, if_neg (mt (hruns p).1 hp)]
  · rw [hrecords, pointAfterWork_kept (fun hx => hc ((hends p).1 hx).1) (mt (hruns p).1 hp),
      holdLowered_of_not_holding hc]
  · rw [hrecords, pointAfterWork_released (fun hx => hc ((hends p).1 hx).1) ((hruns p).2 hp),
      holdLowered_of_not_holding hc]
  · rw [hrecords, pointAfterWork_kept (fun hx => Nat.not_le.2 hlong ((hends p).1 hx).2) (mt (hruns p).1 hp),
      holdLowered_of_holding hc]
  · rw [hrecords, pointAfterWork_released (fun hx => Nat.not_le.2 hlong ((hends p).1 hx).2) ((hruns p).2 hp),
      holdLowered_of_holding hc]
  · rw [hrecords, hforces, pointAfterWork_defined ((hends p).2 hx) hres, holdLowered_of_holding hx.1]
  · have hvalue : ∀ x : PointRecord, publishedValue (s.xc.entries.get p) (forceAfter (s.xc.forces.get p))
        (fallToFailsafe (s.xc.entries.get p) x) = match forceAfter (s.xc.forces.get p) with
          | some x => x.value
          | none => (s.xc.entries.get p).failSafe := fun x => by
      cases forceAfter (s.xc.forces.get p) <;> rfl
    have hquality : ∀ x : PointRecord, publishedQuality (forceAfter (s.xc.forces.get p))
        (fallToFailsafe (s.xc.entries.get p) x) = false := fun x => by
      cases forceAfter (s.xc.forces.get p) <;> rfl
    rw [hrecords, hforces, pointAfterWork_ended ((hends p).2 hx), hres, holdLowered_of_holding hx.1, applyAtExpiry]
    simp only [countChange, withPublished, hvalue, hquality, beq_iff_eq, eq_comm (a := (r p).published)]
    rfl
  · simp only [hforces, hrecords]
    exact reports_of _ _

/-! ### Swaps -/

/-- R33, R46: a recomputation publishes anew, whatever a point in its initial state had published. -/
theorem applyResult_initialPoint (e : BindEntry) (f : Option ForceRecord) (res : CombineResult) :
    withPublished e f (applyResult e res (initialPoint e f)) =
      withPublished e f (applyResult e res ⟨.failsafe, e.failSafe, e.failSafe, 0, e.failSafe, false, 0⟩) := by
  cases res <;> rfl

/-- Settles O25: the swap follows the work of its cycle start. -/
theorem swapsCarryPointsOver : Obligations.SwapsCarryPointsOver := by
  intro s worked n w rest free h hworked
  have hplain : exec .xcCycleStart { s with xc := { s.xc with inbox := ⟨n, none⟩ :: rest } } =
      .next (xcCycleWork { s with xc := { s.xc with inbox := rest, unseen := 0 } }) :=
    congrArg _ (xcTakes_eq (c := ⟨n, none⟩) (rest := rest)
      (s := { s with xc := { s.xc with inbox := ⟨n, none⟩ :: rest } }) free rfl)
  have hw := Host.Outcome.next.inj (hplain.symm.trans hworked)
  intro old new r forced
  have htakes : xcTakes s = xcApplySwap w.bank.binds worked := by
    rw [xcTakes_eq free h, xcCycle, hw]
  have hbehind : reportsBehind worked = s.notice.inbox.length - rest.length := by rw [← hw]; rfl
  have hrecords : ∀ p, (xcApplySwap w.bank.binds worked).xc.records.get p =
      pointAfterSwap worked (old p) (new p) (worked.xc.forces.get p) (r p) := fun p => get_ofFn _ p
  refine ⟨(xcApplySwap w.bank.binds worked).xc.records, _, xcApplySwap w.bank.binds worked,
    congrArg (toldOfPoints _ · _) hbehind, congrArg _ htakes,
    fun p hc hh => (exec_holdExpiry p ⟨hc, hh⟩).trans (congrArg _ htakes),
    fun p x d hx hd hle => (exec_forceExpiry p ⟨x, d, hx, hd, hle⟩).trans (congrArg _ htakes),
    fun p => ⟨fun hkept => ?_, fun hchanged => ?_⟩, ?_⟩
  · rw [hrecords, pointAfterSwap, if_pos hkept]
  · rw [hrecords, pointAfterSwap, if_neg hchanged, recomputed_eq, ← applyResult_initialPoint]
    rfl
  · simp only [hrecords]
    exact reports_of _ _

end Sys2Proof.Machine

/-! PROOFS. The publisher: the changed mark and the emissions of a cycle start (chapter 5, R91 to R97). -/

namespace Sys2Proof.Machine

/-! ### Point reports -/

theorem movesPublished_iff (r : PointReport) : movesPublished r = true ↔
    r.before.value ≠ r.after.value ∨ r.before.quality ≠ r.after.quality := by
  simp [movesPublished]

/-- R91: the records of the groups after a point report. -/
def markedBy (r : PointReport) (recs : Tab 4 PublishRuntime) : Tab 4 PublishRuntime :=
  if movesPublished r then recs.set (groupOf r.point) { recs.get (groupOf r.point) with changed := true } else recs

theorem publisherTakeReport_eq (r : PointReport) (rest : List PointReport) (s : State) :
    publisherTakeReport r rest s = { s with publisher := { s.publisher with
      reports := rest, records := markedBy r s.publisher.records } } := by
  unfold publisherTakeReport markedBy
  dsimp only
  split <;> rfl

theorem markedBy_get (r : PointReport) (recs : Tab 4 PublishRuntime) (g : GroupNo) : (markedBy r recs).get g =
    if g.val = r.point.val / 32 ∧ movesPublished r = true then ⟨(recs.get g).countdown, true⟩ else recs.get g := by
  have hgroup : groupOf r.point = g ↔ g.val = r.point.val / 32 := by
    rw [Fin.ext_iff, eq_comm]; rfl
  unfold markedBy
  split
  · next hm =>
    rw [get_set]
    simp only [hgroup, and_iff_left hm]
    split
    · next hg => rw [hgroup.2 hg]
    · rfl
  · next hm => rw [if_neg fun h => hm h.2]

/-! ### One group -/

section Group

variable {n : Word16} {g : GroupNo} {s : State}

/-- R92: whether a group that has a direction is due at a cycle start. -/
abbrev GroupDue (e : PublishRecord) (r : PublishRuntime) : Prop :=
  (0 < e.period ∧ r.countdown ≤ 1) ∨ (e.onChange = true ∧ r.changed = true)

theorem isGroupDue_lowered (e : PublishRecord) (r : PublishRuntime) :
    isGroupDue e (groupLowered r) = true ↔ GroupDue e r := by
  simp [isGroupDue, groupLowered, Nat.sub_eq_zero_iff_le]

theorem groupCycle_none (h : (s.publisher.entries.get g).direction = .none) : groupCycle n g s = s := by
  rw [groupCycle, if_pos h]

theorem groupCycle_lowers (hd : (s.publisher.entries.get g).direction ≠ .none)
    (h : ¬GroupDue (s.publisher.entries.get g) (s.publisher.records.get g)) :
    groupCycle n g s = s.onGroup g groupLowered := by
  have hdue : ¬isGroupDue (s.publisher.entries.get g) ((s.onGroup g groupLowered).publisher.records.get g) = true := by
    show ¬isGroupDue _ ((s.publisher.records.set g _).get g) = true
    rw [get_set_self, isGroupDue_lowered]
    exact h
  rw [groupCycle, if_neg hd]
  exact if_neg hdue

theorem groupCycle_emits (hd : (s.publisher.entries.get g).direction ≠ .none)
    (h : GroupDue (s.publisher.entries.get g) (s.publisher.records.get g)) :
    groupCycle n g s = emitGroup n g (s.onGroup g groupLowered) := by
  have hdue : isGroupDue (s.publisher.entries.get g) ((s.onGroup g groupLowered).publisher.records.get g) = true := by
    show isGroupDue _ ((s.publisher.records.set g _).get g) = true
    rw [get_set_self, isGroupDue_lowered]
    exact h
  rw [groupCycle, if_neg hd]
  exact if_pos hdue

theorem namesPort_trunk (d : Direction) : namesPort d .trunk = true ↔ d = .up ∨ d = .both := by
  cases d <;> simp [namesPort]

theorem namesPort_field (d : Direction) : namesPort d .field = true ↔ d = .down ∨ d = .both := by
  cases d <;> simp [namesPort]

/-- R93, R94: what an emission writes. -/
theorem emitGroup_eq (n : Word16) (g : GroupNo) (s : State) :
    let e := s.publisher.entries.get g
    emitGroup n g s = { s with
      publisher := { s.publisher with records := s.publisher.records.set g ⟨e.period, false⟩ },
      trunk := if e.direction = .up ∨ e.direction = .both then derivedPlacedFor (groupCell s g n) s.trunk
        else s.trunk,
      field := if e.direction = .down ∨ e.direction = .both then derivedPlacedFor (groupCell s g n) s.field
        else s.field } := by
  intro e
  simp only [emitGroup, placeFor, placeDerived_eq, namesPort_trunk, namesPort_field]
  rfl

theorem groupCycle_entries (n : Word16) (g : GroupNo) (s : State) :
    (groupCycle n g s).publisher.entries = s.publisher.entries := by
  unfold groupCycle
  dsimp only
  split
  · rfl
  · split <;> rfl

/-- R92: groups 0 to 3 in turn. -/
def groupsCycled (n : Word16) (s : State) : State := (indices 4).foldl (fun t g => groupCycle n g t) s

theorem groupsCycled_eq (n : Word16) (s : State) :
    groupsCycled n s = [0, 1, 2, 3].foldl (fun t g => groupCycle n g t) s := by
  have hgroups : indices 4 = [0, 1, 2, 3] := by decide
  rw [groupsCycled, hgroups]

theorem groupsCycled_entries (n : Word16) (s : State) :
    (groupsCycled n s).publisher.entries = s.publisher.entries := by
  unfold groupsCycled
  generalize indices 4 = l
  induction l generalizing s with
  | nil => rfl
  | cons g l ih => rw [List.foldl_cons, ih, groupCycle_entries]

theorem publisherCycle_eq (c : CycleStart) (rest : List CycleStart) (s : State) : publisherCycle c rest s =
    match c.swap with
    | none => groupsCycled c.count { s with publisher := { s.publisher with inbox := rest } }
    | some w => publisherApplySwap w
        (groupsCycled c.count { s with publisher := { s.publisher with inbox := rest } }) := rfl

theorem periodRunsOut_of {e : PublishRecord} {r : PublishRuntime} (hd : e.direction ≠ .none) (hp : 0 < e.period)
    (hc : r.countdown ≤ 1) : periodRunsOut e r = true := by
  simp [periodRunsOut, hd, hp, hc]

end Group

/-- Settles O34: the direction and the due test select what becomes of a group. -/
theorem groupsAreMarkedAndEmittedWhenDue : Obligations.GroupsAreMarkedAndEmittedWhenDue := by
  refine ⟨fun s r rest free h => ?report, fun s c rest free h => ?cycle, fun n g s =>
    ⟨groupCycle_none, fun hd hdue => groupCycle_lowers hd hdue, fun hd hdue => ?emits⟩⟩
  case report =>
    refine ⟨markedBy r s.publisher.records, ?_, fun g => ?_⟩
    · show execPublisherPointReport s = _
      rw [execPublisherPointReport, h]
      exact congrArg _ ((unlessHeld_free free _).trans (publisherTakeReport_eq r rest s))
    · rw [markedBy_get]
      exact if_congr (and_congr_right fun _ => movesPublished_iff r) rfl rfl
  case cycle =>
    have hcycle : publisherTakes s = publisherCycle c rest s := by
      rw [publisherTakes, h]
      exact unlessHeld_free free _
    have hentries := groupsCycled_entries c.count { s with publisher := { s.publisher with inbox := rest } }
    rw [publisherCycle_eq] at hcycle
    rw [← groupsCycled_eq]
    generalize groupsCycled c.count { s with publisher := { s.publisher with inbox := rest } } = u at hcycle hentries ⊢
    intro t after
    have htakes : publisherTakes s = after := by
      rw [hcycle]
      cases hswap : c.swap with
      | none => simp only [after, hswap, t]
      | some w => simp only [after, hswap, t, publisherApplySwap, hentries]
    refine ⟨congrArg _ htakes, fun g hd hp hc => ?_⟩
    show Host.Outcome.next (if h : g.val < 4 then
      if periodRunsOut (s.publisher.entries.get ⟨g, h⟩) (s.publisher.records.get ⟨g, h⟩) then publisherTakes s
      else s else s) = _
    rw [dif_pos g.isLt, if_pos (periodRunsOut_of hd hp hc), htakes]
  case emits =>
    refine ⟨(s.onGroup g groupLowered).publisher.records.set g ⟨(s.publisher.entries.get g).period, false⟩, ?_, get_set_self .., fun g' hg => ?_⟩
    · rw [groupCycle_emits hd hdue, emitGroup_eq]
      rfl
    · rw [get_set_ne _ (Ne.symm hg)]
      exact get_set_ne _ (Ne.symm hg) _

end Sys2Proof.Machine

/-! PROOFS. The bank unit: its cycle starts, and the completion of a validation (chapter 8, R139, R145 to R151). -/

namespace Sys2Proof.Machine

section Cycle

variable {s : State} {n : Word16} {rest : List Word16}

theorem bankTakes_eq (free : s.resetLine = false) (h : s.bank.inbox = n :: rest) :
    bankTakes s = bankCycle n rest s := by
  rw [bankTakes, h]
  exact unlessHeld_free free _

/-- R148: a target at or before a count. -/
theorem reached_atCount (a n : Word16) : reached (.atCount a) n = true ↔ a = n ∨ 32768 ≤ (a - n).toNat := by
  simp [reached, isBefore]

theorem bankCycle_stays (h : swapsAt s.bank n = false) : bankCycle n rest s =
    passedOn { s with bank := bankNoSwap n { s.bank with inbox := rest } } ⟨n, none⟩ := by
  have hswaps : swapsAt { s.bank with inbox := rest } n = false := h
  rw [bankCycle, ← passCycleStart_eq]
  simp only [hswaps]

theorem bankCycle_swaps {shadow : Bank} (h : swapsAt s.bank n = true) (hs : s.bank.shadow = some shadow) :
    bankCycle n rest s = passedOn { s with bank := swapped shadow { s.bank with inbox := rest } }
      ⟨n, some ⟨shadow, s.bank.generation + 1⟩⟩ := by
  rw [← passCycleStart_eq]
  unfold bankCycle
  dsimp only
  split
  · next shadow' _ hshadow =>
    obtain rfl : shadow' = shadow := Option.some.inj (hshadow.symm.trans hs)
    rfl
  · next hnot => exact absurd hs (hnot shadow h)

theorem swapsAt_of_not_armed (h : s.bank.state ≠ .armed) : swapsAt s.bank n = false := by
  simp [swapsAt, h]

theorem swapsAt_armed (h : s.bank.state = .armed) :
    swapsAt s.bank n = true ↔ s.bank.target = .next ∨ s.bank.target = .atCount n := by
  cases ht : s.bank.target <;> simp [swapsAt, h, ht]

theorem exec_leaseExpiry (hs : s.bank.state = .editing) (hl : s.bank.leaseRemaining ≤ 1) :
    exec .leaseExpiry s = .next (bankTakes s) := by
  show Host.Outcome.next (if s.bank.state = .editing ∧ s.bank.leaseRemaining ≤ 1 then bankTakes s else s) = _
  rw [if_pos ⟨hs, hl⟩]

section NoSwap

variable {b : BankUnit}

theorem bankNoSwap_idle (h : b.state = .idle) : bankNoSwap n b = b := by
  simp only [bankNoSwap, h]

theorem bankNoSwap_editing (h : b.state = .editing) : bankNoSwap n b =
    if b.leaseRemaining ≤ 1 then endSession .leaseExpired b
    else { b with leaseRemaining := b.leaseRemaining - 1 } := by
  simp only [bankNoSwap, h]

theorem bankNoSwap_validating (h : b.state = .validating) : bankNoSwap n b =
    if reached b.target n then { b with targetPassed := true } else b := by
  simp only [bankNoSwap, h]

theorem bankNoSwap_armed (h : b.state = .armed) : bankNoSwap n b =
    if reached b.target n then backToEditing .late none b else b := by
  simp only [bankNoSwap, h]

end NoSwap

end Cycle

/-- Settles O35: the bank state, the lease and the target select what a cycle start does. -/
theorem bankCycleStartsEndLeasesAndTakeSwaps : Obligations.BankCycleStartsEndLeasesAndTakeSwaps := by
  intro s n rest free h b idle late kept
  have htakes := bankTakes_eq free h
  have keeps : ∀ b', swapsAt s.bank n = false → bankNoSwap n b = b' → kept b' := fun b' hswap hb =>
    congrArg Host.Outcome.next (htakes.trans ((bankCycle_stays hswap).trans (by rw [← hb])))
  have calm : b.state ≠ .armed → ∀ b', bankNoSwap n b = b' → kept b' := fun hs b' =>
    keeps b' (swapsAt_of_not_armed hs)
  have away : ∀ a, b.target = .atCount a → a ≠ n → swapsAt s.bank n = false := fun a ha hne => by
    have ha : s.bank.target = .atCount a := ha
    simp [swapsAt, ha, hne]
  refine ⟨fun hs => ?idle, fun hs hl => ?lowered, fun hs hl => ?expired, fun hs => ⟨fun a ha hr => ?passed,
    fun ha => ?waiting⟩, fun hs => ⟨fun shadow hshadow ht => ?swap, fun a ha hr => ?late, fun a ha hne hr => ?ahead⟩⟩
  case idle => exact calm (by simp [hs]) b (bankNoSwap_idle hs)
  case lowered =>
    exact calm (by simp [hs]) _ ((bankNoSwap_editing hs).trans (if_neg (Nat.not_le.2 hl)))
  case expired =>
    have hkept : kept (idle .leaseExpired) :=
      calm (by simp [hs]) _ ((bankNoSwap_editing hs).trans (if_pos hl))
    exact ⟨hkept, (exec_leaseExpiry hs hl).trans hkept⟩
  case passed =>
    exact calm (by simp [hs]) _ ((bankNoSwap_validating hs).trans (if_pos (by rw [ha]; exact (reached_atCount ..).2 hr)))
  case waiting =>
    refine calm (by simp [hs]) _ ((bankNoSwap_validating hs).trans (if_neg fun hr => ?_))
    cases ht : b.target with
    | none | next => rw [ht] at hr; cases hr
    | atCount a =>
      rw [ht, reached_atCount] at hr
      exact hr.elim (ha a ht).1 (Nat.not_le.2 (ha a ht).2)
  case swap =>
    exact congrArg _ (htakes.trans (bankCycle_swaps ((swapsAt_armed hs).2 ht) hshadow))
  case late =>
    have hne : a ≠ n := by rintro rfl; simp at hr
    exact keeps _ (away a ha hne) ((bankNoSwap_armed hs).trans (if_pos (by rw [ha]; exact (reached_atCount ..).2 (.inr hr))))
  case ahead =>
    refine keeps _ (away a ha hne) ((bankNoSwap_armed hs).trans (if_neg fun hreached => ?_))
    rw [ha, reached_atCount] at hreached
    exact hreached.elim hne (Nat.not_le.2 hr)

/-- Settles O36: the verdict and the mark select what a completion does. -/
theorem validationCompletionsArmRejectOrComeLate : Obligations.ValidationCompletionsArmRejectOrComeLate := by
  intro s free back
  have hexec : exec .validationCompletion s = .next (s.onBank (completeValidation s.engine.station)) :=
    congrArg _ (unlessHeld_free free _)
  rw [hexec]
  refine ⟨fun hs => ?_, fun shadow hs hshadow => ⟨fun e he => ?_, fun he => ⟨fun hpassed => ?_, fun hpassed => ?_⟩⟩⟩
  · have hsame : completeValidation s.engine.station s.bank = s.bank := by
      unfold completeValidation
      split
      · next hval _ => exact absurd hval hs
      · rfl
    rw [State.onBank, hsame]
  all_goals
    refine congrArg Host.Outcome.next ?_
    simp only [State.onBank, completeValidation, hs, hshadow, he]
  · rfl
  · rw [if_pos hpassed]; rfl
  · rw [if_neg (by simpa using hpassed)]

end Sys2Proof.Machine

/-! PROOFS. The session requests: OPEN-EDIT, COMMIT, and what the bank state refuses (chapters 8.2, 8.3, 8.5). -/

namespace Sys2Proof.Machine

/-! ### The taking of a request, by what its run does -/

section Taking

variable {s : State} {r : Request} {op code : Byte} {wanted : Byte → Bool} {run : Request → State → State × Answer}
  {result : Result} {data : List Byte}

/-- R160 to R163: a request whose run changes nothing is answered, and that is all. -/
theorem takeIf_unchanged (hr : Ready s r op) (hrun : run r (dequeued r s) = (dequeued r s, ⟨result, data⟩))
    (hw : wanted op = true) (hcode : resultCode result = code) :
    takeIf wanted run s = answered s r code data := by
  rw [takeIf_ready hr wanted run hw, hrun, respond_dequeued, hcode]

/-- R160 to R163: a request whose run changes the bank unit is answered, and that is all else. -/
theorem takeIf_onBank {f : BankUnit → BankUnit} (hr : Ready s r op)
    (hrun : run r (dequeued r s) = ((dequeued r s).onBank f, ⟨result, data⟩)) (hw : wanted op = true)
    (hcode : resultCode result = code) : takeIf wanted run s =
      { answered s r code data with bank := f (answered s r 0 []).bank } := by
  rw [takeIf_ready hr wanted run hw, hrun, ← hcode, ← dequeued_bank r s 0 []]
  exact congrArg (fun t : State => { t with bank := f (dequeued r s).bank })
    (respond_dequeued r ⟨result, data⟩ s)

end Taking

section Session

variable {s : State} {r : Request} {b : BankUnit}

@[simp] theorem dequeued_bank_state : (dequeued r s).bank.state = s.bank.state := by
  rw [dequeued_bank r s 0 []]; rfl

@[simp] theorem dequeued_bank_owner : (dequeued r s).bank.owner = s.bank.owner := by
  rw [dequeued_bank r s 0 []]; rfl

@[simp] theorem dequeued_bank_active : (dequeued r s).bank.active = s.bank.active := by
  rw [dequeued_bank r s 0 []]; rfl

@[simp] theorem dequeued_bank_shadow : (dequeued r s).bank.shadow = s.bank.shadow := by
  rw [dequeued_bank r s 0 []]; rfl

@[simp] theorem dequeued_bank_generation : (dequeued r s).bank.generation = s.bank.generation := by
  rw [dequeued_bank r s 0 []]; rfl

/-- R138: in EDITING the owner's request is answered from a lease that starts again. -/
theorem dequeued_bank_leaseRemaining (hs : s.bank.state = .editing) (ho : s.bank.owner = some r.originator) :
    (dequeued r s).bank.leaseRemaining = s.bank.lease := by
  rw [dequeued_bank r s 0 []]
  exact if_pos ⟨hs, ho⟩

@[simp] theorem countByte_toNat (b : Byte) : countByte b.toNat = b := by simp [countByte]

/-- R176: the bank state and the owner, as a refusal shows them. -/
theorem sessionData_eq (b : BankUnit) :
    sessionData b = [(0 : BitVec 6) ++ bankStateCode b.state, ownerByte b.owner] := by
  rw [sessionData, bankStateByte_eq]

theorem sessionData_dequeued : sessionData (dequeued r s).bank = sessionData s.bank := by
  simp only [sessionData_eq, dequeued_bank_state, dequeued_bank_owner]

theorem sessionData_idle (hs : b.state = .idle) : sessionData b = [0, ownerByte b.owner] := by
  rw [sessionData_eq, hs]; rfl

theorem sessionData_editing (hs : b.state = .editing) : sessionData b = [1, ownerByte b.owner] := by
  rw [sessionData_eq, hs]; rfl

theorem sessionData_validating (hs : b.state = .validating) : sessionData b = [2, ownerByte b.owner] := by
  rw [sessionData_eq, hs]; rfl

theorem sessionData_armed (hs : b.state = .armed) : sessionData b = [3, ownerByte b.owner] := by
  rw [sessionData_eq, hs]; rfl

/-- R176: what a refusal shows the owner in EDITING. -/
theorem sessionData_owner {o : Originator} (hs : b.state = .editing) (ho : b.owner = some o) :
    sessionData b = [1, o.setWidth 8] := by
  rw [sessionData_editing hs, ho]; rfl

/-- R160, R176: a session request that is refused, with the bank unit it is refused in. -/
theorem takeIf_refused {op code : Byte} {wanted : Byte → Bool} {run : Request → State → State × Answer}
    {result : Result} (hr : Ready s r op)
    (hrun : run r (dequeued r s) = (dequeued r s, refuseSession result (dequeued r s).bank)) (hw : wanted op = true)
    (hcode : resultCode result = code) : takeIf wanted run s = answered s r code (sessionData s.bank) := by
  rw [takeIf_unchanged hr hrun hw hcode, sessionData_dequeued]

/-! ### OPEN-EDIT -/

theorem runOpenEdit_opens (hs : s.bank.state = .idle) (hlease : r.arg 0 ≠ 0) :
    runOpenEdit r s = openWith (openSession r.originator (r.arg 0).toNat) s := by
  have hpos : (r.arg 0).toNat ≠ 0 := fun h => hlease (BitVec.eq_of_toNat_eq h)
  simp only [runOpenEdit, hs, if_neg hpos]

/-- R137: the session whose owner's OPEN-EDIT renews its lease. -/
def renewLease (lease : Nat) (b : BankUnit) : BankUnit := { b with lease := lease, leaseRemaining := lease }

theorem runOpenEdit_renews (hs : s.bank.state = .editing) (ho : s.bank.owner = some r.originator)
    (hlease : r.arg 0 ≠ 0) : runOpenEdit r s = openWith (renewLease (r.arg 0).toNat) s := by
  have hpos : (r.arg 0).toNat ≠ 0 := fun h => hlease (BitVec.eq_of_toNat_eq h)
  simp only [runOpenEdit, hs, if_pos ho, if_neg hpos]; rfl

/-- R137: a lease of 0 is refused where a lease would be taken. -/
theorem runOpenEdit_noLease (hs : s.bank.state = .idle ∨ s.bank.state = .editing ∧ s.bank.owner = some r.originator)
    (hlease : r.arg 0 = 0) : runOpenEdit r s = (s, refuseSession .range s.bank) := by
  rcases hs with hs | ⟨hs, ho⟩
  · simp [runOpenEdit, hs, hlease]
  · simp [runOpenEdit, hs, ho, hlease]

theorem runOpenEdit_busy (hs : s.bank.state = .validating ∨ s.bank.state = .armed) :
    runOpenEdit r s = (s, refuseSession .busy s.bank) := by
  rcases hs with hs | hs <;> simp only [runOpenEdit, hs]

theorem runOpenEdit_locked (hs : s.bank.state = .editing) (ho : s.bank.owner ≠ some r.originator) :
    runOpenEdit r s = (s, refuseSession .locked s.bank) := by
  simp only [runOpenEdit, hs, if_neg ho]

/-- R137: what an OPEN-EDIT that is carried out answers of the bank unit it leaves. -/
theorem openData_editing (hs : b.state = .editing) : openData b =
    [1, ownerByte b.owner, countByte b.lease, highByte b.generation, lowByte b.generation] := by
  rw [openData, bankStateByte_eq, hs]; rfl

theorem openData_openSession (o : Originator) (lease : Byte) : openData (openSession o lease.toNat b) =
    [1, o.setWidth 8, lease, highByte b.generation, lowByte b.generation] := by
  rw [openData_editing (b := openSession _ _ _) rfl]
  simp only [openSession, countByte_toNat, ownerByte, originatorByte]

theorem openData_renewLease {o : Originator} (lease : Byte) (hs : b.state = .editing) (ho : b.owner = some o) :
    openData (renewLease lease.toNat b) = [1, o.setWidth 8, lease, highByte b.generation, lowByte b.generation] := by
  rw [openData_editing (b := renewLease _ _) hs]
  simp only [renewLease, ho, countByte_toNat, ownerByte, originatorByte]

theorem exec_openEdit_opens (hr : Ready s r 0x20) (hs : s.bank.state = .idle) (hlease : r.arg 0 ≠ 0) :
    exec .openEdit s = .next { answered s r 0 [1, r.originator.setWidth 8, r.arg 0, highByte s.bank.generation,
      lowByte s.bank.generation] with bank := openSession r.originator (r.arg 0).toNat s.bank } := by
  have hrun := runOpenEdit_opens (s := dequeued r s) (dequeued_bank_state.trans hs) hlease
  rw [openWith, openData_openSession, dequeued_bank_generation] at hrun
  exact congrArg Host.Outcome.next (takeIf_onBank hr hrun rfl rfl)

theorem exec_openEdit_renews (hr : Ready s r 0x20) (hs : s.bank.state = .editing)
    (ho : s.bank.owner = some r.originator) (hlease : r.arg 0 ≠ 0) :
    exec .openEdit s = .next { answered s r 0 [1, r.originator.setWidth 8, r.arg 0, highByte s.bank.generation,
      lowByte s.bank.generation] with bank := renewLease (r.arg 0).toNat s.bank } := by
  have hstate := (dequeued_bank_state (r := r)).trans hs
  have howner := (dequeued_bank_owner (r := r)).trans ho
  have hrun := runOpenEdit_renews hstate howner hlease
  rw [openWith, openData_renewLease _ hstate howner, dequeued_bank_generation] at hrun
  exact congrArg Host.Outcome.next (takeIf_onBank hr hrun rfl rfl)

theorem exec_openEdit_noLease (hr : Ready s r 0x20)
    (hs : s.bank.state = .idle ∨ s.bank.state = .editing ∧ s.bank.owner = some r.originator) (hlease : r.arg 0 = 0) :
    exec .openEdit s = .next (answered s r 4 (sessionData s.bank)) :=
  congrArg Host.Outcome.next (takeIf_refused hr
    (runOpenEdit_noLease (by rwa [dequeued_bank_state, dequeued_bank_owner]) hlease) rfl rfl)

theorem exec_openEdit_busy (hr : Ready s r 0x20) (hs : s.bank.state = .validating ∨ s.bank.state = .armed) :
    exec .openEdit s = .next (answered s r 1 (sessionData s.bank)) :=
  congrArg Host.Outcome.next (takeIf_refused hr (runOpenEdit_busy (by rwa [dequeued_bank_state])) rfl rfl)

theorem exec_openEdit_locked (hr : Ready s r 0x20) (hs : s.bank.state = .editing)
    (ho : s.bank.owner ≠ some r.originator) : exec .openEdit s = .next (answered s r 2 (sessionData s.bank)) :=
  congrArg Host.Outcome.next (takeIf_refused hr
    (runOpenEdit_locked (by rwa [dequeued_bank_state]) (by rwa [dequeued_bank_owner])) rfl rfl)

/-- Settles O41: the bank state and the lease byte select the outcome, and a session opened or renewed overwrites what
the taking of the request did to the lease. -/
theorem openEditOpensOrRenewsASession : Obligations.OpenEditOpensOrRenewsASession := by
  refine fun s r hr => ⟨fun hs => ⟨exec_openEdit_opens hr hs, fun hlease => ?_⟩,
    fun hs ho => ⟨exec_openEdit_renews hr hs ho, fun hlease => ?_⟩⟩
  · rw [exec_openEdit_noLease hr (.inl hs) hlease, sessionData_idle hs]
  · rw [exec_openEdit_noLease hr (.inr ⟨hs, ho⟩) hlease, sessionData_owner hs ho]

/-! ### The refusals that the bank state and the owner give -/

/-- R136: the requests that need a session in EDITING and their owner, each with its operation code. -/
def sessionRequests : List (Instr × Byte) :=
  [(.writeTap, 0x21), (.writeBind, 0x22), (.writeWatch, 0x23), (.writePublish, 0x24), (.writePolicy, 0x25),
    (.commit, 0x27)]

theorem runWrite_refused {ι ε : Type} {table : TableName} {args : WriteArgs ι ε} {index count : ι → Nat}
    {put : ι → ε → Bank → Bank} {o : Originator} {result : Result} (h : sessionTest o s.bank = some result) :
    runWrite table args index count put o s = (s, refuseSession result s.bank) := by
  simp only [runWrite, h]

theorem runCommit_refused {result : Result} (h : sessionTest r.originator s.bank = some result) :
    runCommit r s = (s, refuseSession result s.bank) := by
  simp only [runCommit, h]

theorem sessionTest_dequeued (o : Originator) : sessionTest o (dequeued r s).bank = sessionTest o s.bank := by
  simp only [sessionTest, dequeued_bank_state, dequeued_bank_owner]

/-- R136: what the test of the session refuses, every one of the six refuses. -/
theorem exec_sessionRequest_refused {c : Instr} {op : Byte} {result : Result} (hc : (c, op) ∈ sessionRequests)
    (hr : Ready s r op) (h : sessionTest r.originator s.bank = some result) :
    exec c s = .next (answered s r (resultCode result) (sessionData s.bank)) := by
  have htest := (sessionTest_dequeued (r := r) r.originator).trans h
  simp only [sessionRequests, List.mem_cons, Prod.mk.injEq, List.not_mem_nil, or_false] at hc
  obtain ⟨rfl, rfl⟩ | ⟨rfl, rfl⟩ | ⟨rfl, rfl⟩ | ⟨rfl, rfl⟩ | ⟨rfl, rfl⟩ | ⟨rfl, rfl⟩ := hc
  case inr.inr.inr.inr.inr => exact congrArg Host.Outcome.next (takeIf_refused hr (runCommit_refused htest) rfl rfl)
  all_goals exact congrArg Host.Outcome.next (takeIf_refused hr (runWrite_refused htest) rfl rfl)

theorem sessionTest_locked {o : Originator} (hs : b.state = .editing) (ho : b.owner ≠ some o) :
    sessionTest o b = some .locked := by
  simp only [sessionTest, hs, if_neg ho]

theorem exec_abortEdit_noSession (hr : Ready s r 0x28) (hs : s.bank.state = .idle) :
    exec .abortEdit s = .next (answered s r 3 (sessionData s.bank)) :=
  congrArg Host.Outcome.next (takeIf_refused hr (if_pos (dequeued_bank_state.trans hs)) rfl rfl)

theorem exec_abortEdit_locked (hr : Ready s r 0x28) (hs : s.bank.state ≠ .idle)
    (ho : s.bank.owner ≠ some r.originator) : exec .abortEdit s = .next (answered s r 2 (sessionData s.bank)) := by
  have hrun : runAbortEdit r (dequeued r s) = (dequeued r s, refuseSession .locked (dequeued r s).bank) := by
    rw [runAbortEdit, if_neg (by rwa [dequeued_bank_state]), if_neg (by rwa [dequeued_bank_owner])]
  exact congrArg Host.Outcome.next (takeIf_refused hr hrun rfl rfl)

/-- Settles O42: the bank state selects the refusal, and in EDITING the owner does. -/
theorem sessionRequestsAreRefusedInOrder : Obligations.SessionRequestsAreRefusedInOrder := by
  refine fun s r => ⟨fun c op hc hr => ⟨fun hs => ?_, fun hs => ?_, fun hs => ?_, fun hs ho => ?_⟩,
    fun hr => ⟨fun hs => ?_, fun hs => ?_, fun hs ho => ?_⟩,
    fun hr => ⟨fun hs => ?_, fun hs ho => ?_, fun hs ho => ?_, fun hs ho => ?_⟩⟩
  · rw [exec_sessionRequest_refused hc hr (by rw [sessionTest, hs]), sessionData_idle hs]; rfl
  · rw [exec_sessionRequest_refused hc hr (by rw [sessionTest, hs]), sessionData_validating hs]; rfl
  · rw [exec_sessionRequest_refused hc hr (by rw [sessionTest, hs]), sessionData_armed hs]; rfl
  · rw [exec_sessionRequest_refused hc hr (sessionTest_locked hs ho), sessionData_editing hs]; rfl
  · rw [exec_openEdit_busy hr (.inl hs), sessionData_validating hs]
  · rw [exec_openEdit_busy hr (.inr hs), sessionData_armed hs]
  · rw [exec_openEdit_locked hr hs ho, sessionData_editing hs]
  · rw [exec_abortEdit_noSession hr hs, sessionData_idle hs]
  · rw [exec_abortEdit_locked hr (by rw [hs]; decide) ho, sessionData_editing hs]
  · rw [exec_abortEdit_locked hr (by rw [hs]; decide) ho, sessionData_validating hs]
  · rw [exec_abortEdit_locked hr (by rw [hs]; decide) ho, sessionData_armed hs]

/-! ### COMMIT -/

theorem sessionTest_owner {o : Originator} (hs : b.state = .editing) (ho : b.owner = some o) :
    sessionTest o b = none := by
  simp only [sessionTest, hs, if_pos ho]

section Owner

variable {target : Target} (hr : Ready s r 0x27) (hs : s.bank.state = .editing)
  (ho : s.bank.owner = some r.originator)
include hr hs ho

theorem exec_commit_begins (htarget : commitTarget r = some target) (hahead : tooLate target s.cycle.count = false) :
    exec .commit s = .next { answered s r 0 (commitData target s.cycle.count { s.bank with state := .validating }) with
      bank := beginValidation target (answered s r 0 []).bank } := by
  have htest := sessionTest_owner (b := (dequeued r s).bank) (dequeued_bank_state.trans hs)
    (dequeued_bank_owner.trans ho)
  have hrun : runCommit r (dequeued r s) = ((dequeued r s).onBank (beginValidation target),
      ⟨.ok, commitData target s.cycle.count (beginValidation target (dequeued r s).bank)⟩) := by
    simp only [runCommit, htest, htarget]
    exact if_neg (by rw [show (dequeued r s).cycle = s.cycle from rfl, hahead]; decide)
  exact congrArg Host.Outcome.next (takeIf_onBank hr hrun rfl rfl)

theorem exec_commit_tooLate (htarget : commitTarget r = some target) (hpassed : tooLate target s.cycle.count = true) :
    exec .commit s = .next (answered s r 8 (sessionData s.bank ++ countData s.cycle.count)) := by
  have htest := sessionTest_owner (b := (dequeued r s).bank) (dequeued_bank_state.trans hs)
    (dequeued_bank_owner.trans ho)
  have hrun : runCommit r (dequeued r s) =
      (dequeued r s, ⟨.tooLate, sessionData s.bank ++ countData s.cycle.count⟩) := by
    simp only [runCommit, htest, htarget, sessionData_dequeued]
    exact if_pos hpassed
  exact congrArg Host.Outcome.next (takeIf_unchanged hr hrun rfl rfl)

theorem exec_commit_noTarget (htarget : commitTarget r = none) :
    exec .commit s = .next (answered s r 4 (sessionData s.bank)) := by
  have htest := sessionTest_owner (b := (dequeued r s).bank) (dequeued_bank_state.trans hs)
    (dequeued_bank_owner.trans ho)
  have hrun : runCommit r (dequeued r s) = (dequeued r s, refuseSession .range (dequeued r s).bank) := by
    simp only [runCommit, htest, htarget]
  exact congrArg Host.Outcome.next (takeIf_refused hr hrun rfl rfl)

end Owner

theorem tooLate_atCount (a n : Word16) : tooLate (.atCount a) n = true ↔ a = n ∨ 32768 ≤ (a - n).toNat :=
  reached_atCount a n

@[simp] theorem highByte_append (a b : Byte) : highByte (a ++ b) = a :=
  BitVec.extractLsb'_append_eq_left

@[simp] theorem lowByte_append (a b : Byte) : lowByte (a ++ b) = b :=
  BitVec.extractLsb'_append_eq_right

theorem commitTarget_next (h : r.arg 0 = 1) : commitTarget r = some .next := by
  simp only [commitTarget, h]; rfl

theorem commitTarget_atCount (h : r.arg 0 = 2) : commitTarget r = some (.atCount (r.arg 1 ++ r.arg 2)) := by
  simp only [commitTarget, h]; rfl

theorem commitTarget_none (hnext : r.arg 0 ≠ 1) (hcount : r.arg 0 ≠ 2) : commitTarget r = none := by
  unfold commitTarget
  split
  · next h => exact absurd (BitVec.eq_of_toNat_eq h) hnext
  · next h => exact absurd (BitVec.eq_of_toNat_eq h) hcount
  · rfl

theorem commitData_next (n : Word16) : commitData .next n { b with state := .validating } =
    [2, 1, 0, 0] ++ countData n := by
  rfl

theorem commitData_atCount (x y : Byte) (n : Word16) : commitData (.atCount (x ++ y)) n { b with state := .validating } =
    [2, 2, x, y] ++ countData n := by
  simp only [commitData, targetCount, countData, highByte_append, lowByte_append]; rfl

/-- Settles O46: the first argument byte selects the kind of target, and for a count its place in the half range
about the cycle count selects between the two outcomes. -/
theorem commitBeginsValidation : Obligations.CommitBeginsValidation := by
  refine fun s r hr hs ho => ⟨fun hkind => ?next, fun hkind hne hahead => ?counted, fun hkind hpassed => ?passed,
    fun hnext hcount => ?other⟩
  case next =>
    refine (exec_commit_begins hr hs ho (commitTarget_next hkind) rfl).trans ?_
    rw [commitData_next]; rfl
  case counted =>
    have hreach : tooLate (.atCount (r.arg 1 ++ r.arg 2)) s.cycle.count = false := by
      rw [Bool.eq_false_iff, Ne, tooLate_atCount, not_or, Nat.not_le]
      exact ⟨hne, hahead⟩
    refine (exec_commit_begins hr hs ho (commitTarget_atCount hkind) hreach).trans ?_
    rw [commitData_atCount]; rfl
  case passed =>
    rw [exec_commit_tooLate hr hs ho (commitTarget_atCount hkind) ((tooLate_atCount _ _).2 hpassed),
      sessionData_owner hs ho]; rfl
  case other => rw [exec_commit_noTarget hr hs ho (commitTarget_none hnext hcount), sessionData_owner hs ho]

end Session

end Sys2Proof.Machine

/-! PROOFS. The five writes: their range tests, and the shadow entry they write (chapters 8.4, 10.5). -/

namespace Sys2Proof.Machine

/-! ### A write from the owner in EDITING, by what its arguments come to -/

section Writes

variable {ι ε : Type} {s : State} {r : Request} {op : Byte} {wanted : Byte → Bool} {table : TableName}
  {args : Request → WriteArgs ι ε} {index count : ι → Nat} {put : ι → ε → Bank → Bank}

theorem takeIf_writeRange {k : Nat} (hr : Ready s r op) (hs : s.bank.state = .editing)
    (ho : s.bank.owner = some r.originator) (hargs : args r = .range k) (hw : wanted op = true) :
    takeIf wanted (fun r => runWrite table (args r) index count put r.originator) s =
      answered s r 4 [1, r.originator.setWidth 8, BitVec.ofNat 8 k] := by
  have htest := (sessionTest_dequeued (r := r) r.originator).trans (sessionTest_owner hs ho)
  refine takeIf_unchanged hr (result := .range) ?_ hw rfl
  simp only [runWrite, hargs, htest, refuseWrite, sessionData_dequeued, sessionData_owner hs ho]
  rfl

theorem takeIf_writeInvalid {k : Nat} (hr : Ready s r op) (hs : s.bank.state = .editing)
    (ho : s.bank.owner = some r.originator) (hargs : args r = .invalid k) (hw : wanted op = true) :
    takeIf wanted (fun r => runWrite table (args r) index count put r.originator) s =
      answered s r 5 [1, r.originator.setWidth 8, BitVec.ofNat 8 k] := by
  have htest := (sessionTest_dequeued (r := r) r.originator).trans (sessionTest_owner hs ho)
  refine takeIf_unchanged hr (result := .invalid) ?_ hw rfl
  simp only [runWrite, hargs, htest, refuseWrite, sessionData_dequeued, sessionData_owner hs ho]
  rfl

/-- R138, R140: an accepted write changes the shadow bank and answers from the lease that it has reloaded. -/
theorem takeIf_written {i : ι} {e : ε} (hr : Ready s r op) (hs : s.bank.state = .editing)
    (ho : s.bank.owner = some r.originator) (hargs : args r = .entry i e) (hw : wanted op = true) :
    takeIf wanted (fun r => runWrite table (args r) index count put r.originator) s =
      let t := answered s r 0 [tableCode table, countByte (index i), countByte (count i), countByte s.bank.lease]
      { t with bank := { t.bank with shadow := s.bank.shadow.map (put i e) } } := by
  have htest := (sessionTest_dequeued (r := r) r.originator).trans (sessionTest_owner hs ho)
  refine takeIf_onBank hr (f := fun b => { b with shadow := b.shadow.map (put i e) }) (result := .ok) ?_ hw rfl
  simp only [runWrite, hargs, htest, writeShadow, writeData, dequeued_bank_leaseRemaining hs ho]

end Writes

/-! ### Range tests in the order of their bytes -/

theorem firstFailing_nil : firstFailing [] = none := rfl

theorem firstFailing_cons (k : Nat) (ok : Bool) (l : List (Nat × Bool)) :
    firstFailing ((k, ok) :: l) = if ok = true then firstFailing l else some k := by
  cases ok <;> simp [firstFailing]

theorem firstFailing_cons_eq_some {i k : Nat} {ok : Bool} {l : List (Nat × Bool)} :
    firstFailing ((i, ok) :: l) = some k ↔ ok = false ∧ i = k ∨ ok = true ∧ firstFailing l = some k := by
  cases ok <;> simp [firstFailing_cons]

theorem firstFailing_cons_eq_none {i : Nat} {ok : Bool} {l : List (Nat × Bool)} :
    firstFailing ((i, ok) :: l) = none ↔ ok = true ∧ firstFailing l = none := by
  cases ok <;> simp [firstFailing_cons]

theorem firstFailing_append (l l' : List (Nat × Bool)) :
    firstFailing (l ++ l') = (firstFailing l).or (firstFailing l') := by
  simp [firstFailing, List.find?_append, Option.map_or]

theorem highNibble_toNat (b : Byte) : (b.extractLsb' 4 4).toNat = b.toNat / 16 := by
  have := b.isLt
  rw [BitVec.extractLsb'_toNat, Nat.shiftRight_eq_div_pow, Nat.mod_eq_of_lt (by omega)]

theorem lowNibble_toNat (b : Byte) : (b.extractLsb' 0 4).toNat = b.toNat % 16 := by
  rw [BitVec.extractLsb'_toNat, Nat.shiftRight_zero]

theorem highNibble_eq_zero (b : Byte) : b.extractLsb' 4 4 = 0 ↔ b.toNat / 16 = 0 := by
  rw [← highNibble_toNat, ← BitVec.toNat_inj]; rfl

theorem lowNibble_eq_zero (b : Byte) : b.extractLsb' 0 4 = 0 ↔ b.toNat % 16 = 0 := by
  rw [← lowNibble_toNat, ← BitVec.toNat_inj]; rfl

/-! ### WRITE-TAP -/

section Tap

variable {r : Request}

/-- R141: the range tests of a WRITE-TAP. -/
def tapTests (r : Request) : List (Nat × Bool) :=
  [(0, decide ((r.arg 0).toNat < 192)), (1, decide ((r.arg 1).toNat / 16 = 0)), (2, decide ((r.arg 2).toNat ≤ 254)),
    (3, decide ((r.arg 3).toNat % 16 ≠ 0)), (4, decide ((r.arg 4).toNat ≤ 31)),
    (5, decide (1 ≤ (r.arg 5).toNat ∧ (r.arg 5).toNat ≤ 63))]

/-- R175: the tap entry that a WRITE-TAP's arguments give. -/
def requestedTap (r : Request) : TapEntry where
  enabled := (r.arg 1).getLsbD 0
  side    := if (r.arg 1).getLsbD 1 then .trunk else .field
  station := r.arg 2
  slot    := BitVec.ofNat 4 ((r.arg 3).toNat / 16)
  line    := BitVec.ofNat 5 (r.arg 4).toNat
  invert  := (r.arg 1).getLsbD 2
  qualify := (r.arg 3).toNat % 16
  spacing := (r.arg 5).toNat
  stale   := (r.arg 6).toNat
  preset  := (r.arg 1).getLsbD 3

/-- R175: the fields as the model cuts them from the argument bytes. -/
theorem requestedTap_eq (r : Request) :
    { enabled := (r.arg 1).getLsbD 0, side := if (r.arg 1).getLsbD 1 then .trunk else .field, station := r.arg 2,
      slot := (r.arg 3).extractLsb' 4 4, line := (r.arg 4).setWidth 5, invert := (r.arg 1).getLsbD 2,
      qualify := ((r.arg 3).extractLsb' 0 4).toNat, spacing := (r.arg 5).toNat, stale := (r.arg 6).toNat,
      preset := (r.arg 1).getLsbD 3 } = requestedTap r := by
  have hslot : (r.arg 3).extractLsb' 4 4 = BitVec.ofNat 4 ((r.arg 3).toNat / 16) := by
    rw [← highNibble_toNat, BitVec.ofNat_toNat, BitVec.setWidth_eq]
  rw [hslot, lowNibble_toNat, requestedTap, BitVec.ofNat_toNat]

/-- R140, R141: the model's arguments are the tests in order, and then the entry. -/
theorem writeTapArgs_eq (r : Request) : writeTapArgs r =
    if h : (r.arg 0).toNat < 192 then
      match firstFailing (tapTests r) with
      | some k => .range k
      | none => .entry ⟨(r.arg 0).toNat, h⟩ (requestedTap r)
    else .range 0 := by
  have hspacing : (r.arg 5).toNat = 0 ∨ ¬(r.arg 5).toNat ≤ 63 ↔ ¬(1 ≤ (r.arg 5).toNat ∧ (r.arg 5).toNat ≤ 63) := by
    omega
  simp only [writeTapArgs, requestedTap_eq]
  simp only [tapTests, firstFailing_cons, firstFailing_nil, bne_iff_ne, Ne, beq_iff_eq, highNibble_eq_zero,
    lowNibble_eq_zero, Bool.or_eq_true, decide_eq_true_eq, ← Nat.not_le, hspacing, ite_not]
  split_ifs <;> rfl

theorem writeTapArgs_range {k : Nat} (h : firstFailing (tapTests r) = some k) : writeTapArgs r = .range k := by
  rw [writeTapArgs_eq]
  split_ifs with hindex
  · rw [h]
  · rw [tapTests, firstFailing_cons, if_neg (by simpa using hindex)] at h
    rw [Option.some.inj h]

theorem writeTapArgs_entry {t : TapNo} (h : firstFailing (tapTests r) = none) (ht : t.val = (r.arg 0).toNat) :
    writeTapArgs r = .entry t (requestedTap r) := by
  have hindex : (r.arg 0).toNat < 192 := ht ▸ t.isLt
  rw [writeTapArgs_eq, dif_pos hindex, h]
  exact congrArg (WriteArgs.entry · _) (Fin.ext ht.symm)

end Tap

/-! ### WRITE-WATCH -/

section Watch

variable {r : Request}

theorem triggerOf_eq (b : Byte) :
    triggerOf b = [Trigger.rise, .fall, .change, .high, .low, .condition][b.toNat]? := by
  unfold triggerOf
  match b.toNat with
  | 0 | 1 | 2 | 3 | 4 | 5 | _ + 6 => rfl

theorem triggerOf_isSome (b : Byte) : (triggerOf b).isSome = decide (b.toNat < 6) := by
  rw [triggerOf_eq, Bool.eq_iff_iff]; simp

theorem tapNo?_eq_some {b : Byte} {t : TapNo} (h : t.val = b.toNat) : tapNo? b = some t := by
  rw [tapNo?, dif_pos (h ▸ t.isLt)]
  exact congrArg some (Fin.ext h.symm)

theorem tapNo?_isSome (b : Byte) : (tapNo? b).isSome = decide (b.toNat < 192) := by
  unfold tapNo?; split_ifs with h <;> simp [h]

theorem pointNo?_isSome (b : Byte) : (pointNo? b).isSome = decide (b.toNat < 128) := by
  unfold pointNo?; split_ifs with h <;> simp [h]

theorem subjectOf_isSome (point : Bool) (b : Byte) :
    (subjectOf point b).isSome = decide (b.toNat < if point then 128 else 192) := by
  cases point
  · simpa [subjectOf] using tapNo?_isSome b
  · simpa [subjectOf] using pointNo?_isSome b

theorem subjectOf_tap {b : Byte} {t : TapNo} (h : t.val = b.toNat) : subjectOf false b = some (.tap t) := by
  simp [subjectOf, tapNo?_eq_some h]

theorem subjectOf_point {b : Byte} {p : PointNo} (h : p.val = b.toNat) : subjectOf true b = some (.point p) := by
  simp [subjectOf, pointNo?_eq_some h]

/-- R141: the range tests of a WRITE-WATCH. -/
def watchTests (r : Request) : List (Nat × Bool) :=
  [(0, decide ((r.arg 0).toNat < 48)), (1, decide ((r.arg 1).toNat < 4)),
    (2, decide ((r.arg 2).toNat < if (r.arg 1).getLsbD 1 then 128 else 192)), (3, decide ((r.arg 3).toNat < 6)),
    (4, decide ((r.arg 4).toNat < 4))]

theorem upperBits_eq_zero (b : Byte) : b.extractLsb' 2 6 = 0 ↔ b.toNat < 4 := by
  have := b.isLt
  rw [← BitVec.toNat_inj, BitVec.extractLsb'_toNat, Nat.shiftRight_eq_div_pow]
  show b.toNat / 4 % 64 = 0 ↔ _
  omega

theorem writeWatchArgs_range {k : Nat} (h : firstFailing (watchTests r) = some k) : writeWatchArgs r = .range k := by
  have hsubject := subjectOf_isSome ((r.arg 1).getLsbD 1) (r.arg 2)
  have htrigger := triggerOf_isSome (r.arg 3)
  rw [watchTests, ← hsubject, ← htrigger] at h
  simp only [firstFailing_cons_eq_some, firstFailing_nil, decide_eq_true_eq, decide_eq_false_iff_not,
    Option.isSome_eq_false_iff, Option.isNone_iff_eq_none, Option.isSome_iff_exists, reduceCtorEq, and_false, or_false] at h
  simp only [writeWatchArgs, bne_iff_ne, Ne, upperBits_eq_zero, ite_not]
  obtain ⟨h0, rfl⟩ | ⟨h0, ⟨h1, rfl⟩ | ⟨h1, ⟨h2, rfl⟩ | ⟨⟨x, h2⟩, ⟨h3, rfl⟩ | ⟨⟨tr, h3⟩, h4, rfl⟩⟩⟩⟩ := h
  · rw [dif_neg h0]
  · rw [dif_pos h0, if_neg h1]
  · rw [dif_pos h0, if_pos h1, h2]
  · rw [dif_pos h0, if_pos h1, h2, h3]
  · rw [dif_pos h0, if_pos h1, h2, h3]
    exact dif_neg h4

theorem writeWatchArgs_entry {w : WatchNo} {x : Subject} {tr : Trigger} {c : ClassNo}
    (h : firstFailing (watchTests r) = none) (hw : w.val = (r.arg 0).toNat)
    (hx : subjectOf ((r.arg 1).getLsbD 1) (r.arg 2) = some x) (htr : triggerOf (r.arg 3) = some tr)
    (hc : c.val = (r.arg 4).toNat) :
    writeWatchArgs r = .entry w ⟨(r.arg 1).getLsbD 0, x, tr, c, (r.arg 5).toNat⟩ := by
  simp only [watchTests, firstFailing_cons_eq_none, decide_eq_true_eq] at h
  obtain ⟨h0, h1, -, -, h4, -⟩ := h
  obtain rfl : w = ⟨_, h0⟩ := Fin.ext hw
  obtain rfl : c = ⟨_, h4⟩ := Fin.ext hc
  simp only [writeWatchArgs, bne_iff_ne, Ne, upperBits_eq_zero, ite_not]
  rw [dif_pos h0, if_pos h1, hx, htr]
  exact dif_pos h4

end Watch

/-! ### WRITE-PUBLISH and WRITE-POLICY -/

section Publish

variable {r : Request}

theorem directionOf_eq (b : Byte) : directionOf b = [Direction.none, .up, .down, .both][b.toNat]? := by
  unfold directionOf
  match b.toNat with
  | 0 | 1 | 2 | 3 | _ + 4 => rfl

theorem directionOf_isSome (b : Byte) : (directionOf b).isSome = decide (b.toNat < 4) := by
  rw [directionOf_eq, Bool.eq_iff_iff]; simp

/-- R141: the range tests of a WRITE-PUBLISH. -/
def publishTests (r : Request) : List (Nat × Bool) :=
  [(0, decide ((r.arg 0).toNat < 4)), (1, decide ((r.arg 1).toNat < 4)), (3, decide ((r.arg 3).toNat ≤ 1))]

theorem writePublishArgs_range {k : Nat} (h : firstFailing (publishTests r) = some k) :
    writePublishArgs r = .range k := by
  have hdirection := directionOf_isSome (r.arg 1)
  rw [publishTests, ← hdirection] at h
  simp only [firstFailing_cons_eq_some, firstFailing_nil, decide_eq_true_eq, decide_eq_false_iff_not,
    Option.isSome_eq_false_iff, Option.isNone_iff_eq_none, Option.isSome_iff_exists, reduceCtorEq, and_false, or_false] at h
  unfold writePublishArgs
  obtain ⟨h0, rfl⟩ | ⟨h0, ⟨h1, rfl⟩ | ⟨⟨d, h1⟩, h3, rfl⟩⟩ := h
  · rw [dif_neg h0]
  · rw [dif_pos h0, h1]
  · rw [dif_pos h0, h1]
    exact if_pos (Nat.not_le.1 h3)

theorem writePublishArgs_entry {g : GroupNo} {d : Direction} (h : firstFailing (publishTests r) = none)
    (hg : g.val = (r.arg 0).toNat) (hd : directionOf (r.arg 1) = some d) :
    writePublishArgs r = .entry g ⟨d, (r.arg 2).toNat, decide (r.arg 3 = 1)⟩ := by
  simp only [publishTests, firstFailing_cons_eq_none, decide_eq_true_eq] at h
  obtain ⟨h0, -, h3, -⟩ := h
  obtain rfl : g = ⟨_, h0⟩ := Fin.ext hg
  rw [writePublishArgs, dif_pos h0, hd, ← lowBit_of_le_one h3]
  exact if_neg (Nat.not_lt.2 h3)

/-- R142: the range tests of a WRITE-POLICY. -/
def policyTests (r : Request) : List (Nat × Bool) :=
  [(0, decide ((r.arg 0).toNat ≤ 254)), (1, decide (1 ≤ (r.arg 1).toNat ∧ (r.arg 1).toNat ≤ 16))]

theorem writePolicyArgs_range {k : Nat} (h : firstFailing (policyTests r) = some k) :
    writePolicyArgs r = .range k := by
  simp only [policyTests, firstFailing_cons_eq_some, firstFailing_nil, decide_eq_true_eq, decide_eq_false_iff_not,
    reduceCtorEq, and_false, or_false] at h
  simp only [writePolicyArgs, Bool.or_eq_true, beq_iff_eq, decide_eq_true_eq]
  obtain ⟨h0, rfl⟩ | ⟨h0, h1, rfl⟩ := h
  · exact if_pos (by omega)
  · rw [if_neg (by omega), if_pos (by omega)]

/-- R142: with both run arguments in range, the run is written unless it would pass station 254. -/
theorem writePolicyArgs_eq (h : firstFailing (policyTests r) = none) : writePolicyArgs r =
    if 255 < (r.arg 0).toNat + (r.arg 1).toNat then
      .range (if Config.policyRunNamesCount (r.arg 0) (r.arg 1) then 1 else 0)
    else .entry ⟨(r.arg 0).toNat, (r.arg 1).toNat⟩ (r.arg 2 ++ r.arg 3, r.arg 4 ++ r.arg 5) := by
  simp only [policyTests, firstFailing_cons_eq_none, decide_eq_true_eq] at h
  obtain ⟨h0, h1, -⟩ := h
  simp only [writePolicyArgs, Bool.or_eq_true, beq_iff_eq, decide_eq_true_eq]
  rw [if_neg (by omega), if_neg (by omega)]
  rfl

end Publish

/-! ### WRITE-BIND -/

section Bind

variable {r : Request}

theorem combineOf_eq (b : BitVec 4) : combineOf b = [Combine.follow, .any, .all, .vote][b.toNat]? := by
  unfold combineOf
  match b.toNat with
  | 0 | 1 | 2 | 3 | _ + 4 => rfl

/-- R141: the range tests of the source bytes that a source count uses. -/
def sourceTests (r : Request) (n : Nat) : List (Nat × Bool) :=
  [(2, decide (1 ≤ n → (r.arg 2).toNat < 192)), (3, decide (2 ≤ n → (r.arg 3).toNat < 192)),
    (4, decide (3 ≤ n → (r.arg 4).toNat < 192))]

/-- R141: the range tests of a WRITE-BIND. -/
def bindTests (r : Request) : List (Nat × Bool) :=
  (0, decide ((r.arg 0).toNat < 128)) :: (1, decide ((r.arg 1).toNat / 16 ≤ 3 ∧ (r.arg 1).toNat % 16 ≤ 3)) ::
    (sourceTests r ((r.arg 1).toNat % 16) ++ [(5, decide ((r.arg 5).toNat ≤ 1))])

theorem badSource_eq (l : List (Nat × Byte)) :
    badSource l = firstFailing (l.map fun x => (x.1, decide (x.2.toNat < 192))) := by
  induction l with
  | nil => rfl
  | cons x l ih =>
    rw [List.map_cons, firstFailing_cons, ← ih, ← tapNo?_isSome]
    cases h : tapNo? x.2 <;> simp [badSource, h]

theorem badSource_sourceArgs {n : Nat} (hn : n ≤ 3) : badSource (sourceArgs r n) = firstFailing (sourceTests r n) := by
  rw [badSource_eq]
  match n, hn with
  | 0, _ | 1, _ | 2, _ | 3, _ => simp [sourceArgs, sourceTests, firstFailing_cons, firstFailing_nil]

/-- R141: the first of the source bytes in use that lists a source a second time. -/
theorem repeatedSource_sourceArgs {n : Nat} (hn : n ≤ 3) : repeatedSource [] (sourceArgs r n) =
    if 2 ≤ n ∧ r.arg 3 = r.arg 2 then some 3
    else if 3 ≤ n ∧ (r.arg 4 = r.arg 2 ∨ r.arg 4 = r.arg 3) then some 4 else none := by
  match n, hn with
  | 0, _ | 1, _ | 2, _ | 3, _ => simp [sourceArgs, repeatedSource, or_comm]

theorem filterMap_tapNo? {l : List (Nat × Byte)} {sources : List TapNo}
    (h : sources.map (·.val) = l.map fun x => x.2.toNat) : (l.filterMap fun x => tapNo? x.2) = sources := by
  induction l generalizing sources with
  | nil => simpa using h.symm
  | cons x l ih =>
    obtain ⟨t, rest, rfl, ht, hrest⟩ := List.map_eq_cons_iff.1 h
    rw [List.filterMap_cons, tapNo?_eq_some ht, ih hrest]

theorem combineOf_highNibble (b : Byte) :
    combineOf (b.extractLsb' 4 4) = [Combine.follow, .any, .all, .vote][b.toNat / 16]? := by
  rw [combineOf_eq, highNibble_toNat]

theorem writeBindArgs_range {k : Nat} (h : firstFailing (bindTests r) = some k) : writeBindArgs r = .range k := by
  rw [bindTests, ← pointNo?_isSome] at h
  simp only [firstFailing_cons_eq_some, firstFailing_append, firstFailing_nil, decide_eq_true_eq,
    decide_eq_false_iff_not, Option.isSome_eq_false_iff, Option.isNone_iff_eq_none, Option.isSome_iff_exists,
    Option.or_eq_some_iff, reduceCtorEq, and_false, or_false] at h
  simp only [writeBindArgs, combineOf_highNibble, lowNibble_toNat]
  obtain ⟨h0, rfl⟩ | ⟨⟨p, h0⟩, ⟨h1, rfl⟩ | ⟨⟨hfn, hcount⟩, hrest⟩⟩ := h
  · rw [h0]
  · rw [h0]
    by_cases hfn : (r.arg 1).toNat / 16 ≤ 3
    · rw [List.getElem?_eq_getElem (Nat.lt_succ_of_le hfn)]
      exact if_pos (by omega)
    · rw [List.getElem?_eq_none (Nat.not_le.1 hfn)]
  · rw [h0, List.getElem?_eq_getElem (Nat.lt_succ_of_le hfn)]
    simp only [if_neg (Nat.not_lt.2 hcount), badSource_sourceArgs hcount]
    obtain hsource | ⟨hsource, h5, rfl⟩ := hrest
    · rw [hsource]
    · rw [hsource]
      exact if_pos (Nat.not_le.1 h5)

theorem bindTests_eq_none : firstFailing (bindTests r) = none ↔ (r.arg 0).toNat < 128 ∧
    ((r.arg 1).toNat / 16 ≤ 3 ∧ (r.arg 1).toNat % 16 ≤ 3) ∧
      firstFailing (sourceTests r ((r.arg 1).toNat % 16)) = none ∧ (r.arg 5).toNat ≤ 1 := by
  simp only [bindTests, firstFailing_cons_eq_none, firstFailing_append, Option.or_eq_none_iff, decide_eq_true_eq,
    firstFailing_nil, and_true]

/-- R140, R175: with every byte in use in range, the sources are tested for one listed twice. -/
theorem writeBindArgs_invalid {k : Nat} (h : firstFailing (bindTests r) = none)
    (hk : repeatedSource [] (sourceArgs r ((r.arg 1).toNat % 16)) = some k) : writeBindArgs r = .invalid k := by
  obtain ⟨h0, ⟨hfn, hcount⟩, hsource, h5⟩ := bindTests_eq_none.1 h
  simp only [writeBindArgs, combineOf_highNibble, lowNibble_toNat, pointNo?_eq_some (p := ⟨_, h0⟩) rfl,
    List.getElem?_eq_getElem (l := [Combine.follow, .any, .all, .vote]) (Nat.lt_succ_of_le hfn),
    if_neg (Nat.not_lt.2 hcount), badSource_sourceArgs hcount, hsource, if_neg (Nat.not_lt.2 h5), hk]

theorem writeBindArgs_entry {p : PointNo} {fn : Combine} {sources : List TapNo}
    (h : firstFailing (bindTests r) = none) (hp : p.val = (r.arg 0).toNat)
    (hfn : [Combine.follow, .any, .all, .vote][(r.arg 1).toNat / 16]? = some fn)
    (hsources : sources.map (·.val) = [(r.arg 2).toNat, (r.arg 3).toNat, (r.arg 4).toNat].take ((r.arg 1).toNat % 16))
    (hk : repeatedSource [] (sourceArgs r ((r.arg 1).toNat % 16)) = none) :
    writeBindArgs r = .entry p ⟨fn, sources, decide (r.arg 5 = 1), (r.arg 6).toNat⟩ := by
  obtain ⟨-, ⟨-, hcount⟩, hsource, h5⟩ := bindTests_eq_none.1 h
  have hlist : ((sourceArgs r ((r.arg 1).toNat % 16)).filterMap fun x => tapNo? x.2) = sources :=
    filterMap_tapNo? (by rw [hsources, sourceArgs, List.map_take]; rfl)
  simp only [writeBindArgs, combineOf_highNibble, lowNibble_toNat, pointNo?_eq_some hp, hfn,
    if_neg (Nat.not_lt.2 hcount), badSource_sourceArgs hcount, hsource, if_neg (Nat.not_lt.2 h5), hk, hlist,
    lowBit_of_le_one h5]

end Bind

/-! ### The obligations -/

/-- Settles O43: the first failing test, or the repeated source, names the refusal's byte, and else the entry written
is the one the argument bytes spell. -/
theorem tapAndBindWritesReachTheShadowBank : Obligations.TapAndBindWritesReachTheShadowBank := by
  intro s r hs ho o lease a high low refused written testsOfTap testsOfBind twice3 twice4
  refine ⟨fun hr => ⟨fun k hk => ?tapRange, fun hk t ht => ?tapWritten⟩,
    fun hr => ⟨fun k hk => ?bindRange, fun hk => ?bind⟩⟩
  case tapRange => exact congrArg Host.Outcome.next (takeIf_writeRange hr hs ho (writeTapArgs_range hk) rfl)
  case tapWritten =>
    refine congrArg Host.Outcome.next ((takeIf_written hr hs ho (writeTapArgs_entry hk ht) rfl).trans ?_)
    simp only [ht, countByte_toNat]; rfl
  case bindRange => exact congrArg Host.Outcome.next (takeIf_writeRange hr hs ho (writeBindArgs_range hk) rfl)
  case bind =>
    have hrepeated := repeatedSource_sourceArgs (r := r) (bindTests_eq_none.1 hk).2.1.2
    refine ⟨fun h3 => ?third, fun h3 h4 => ?fourth, fun h3 h4 p fn sources hp hfn hsources => ?bindWritten⟩
    case third =>
      exact congrArg Host.Outcome.next (takeIf_writeInvalid hr hs ho
        (writeBindArgs_invalid hk (hrepeated.trans (if_pos h3))) rfl)
    case fourth =>
      exact congrArg Host.Outcome.next (takeIf_writeInvalid hr hs ho
        (writeBindArgs_invalid hk (hrepeated.trans ((if_neg h3).trans (if_pos h4)))) rfl)
    case bindWritten =>
      refine congrArg Host.Outcome.next ((takeIf_written hr hs ho
        (writeBindArgs_entry hk hp hfn hsources (hrepeated.trans ((if_neg h3).trans (if_neg h4)))) rfl).trans ?_)
      simp only [hp, countByte_toNat]; rfl

/-- Settles O44: the tests decide as for the other writes; a run past station 254 is refused with one of the two run
bytes, whichever the configuration names. -/
theorem otherWritesReachTheShadowBank : Obligations.OtherWritesReachTheShadowBank := by
  intro s r hs ho o lease a refused written testsOfWatch testsOfPublish testsOfPolicy
  refine ⟨fun hr => ⟨fun k hk => ?watchRange, fun hk w x tr c hw htap hpoint hkind htr hc => ?watchWritten⟩,
    fun hr => ⟨fun k hk => ?publishRange, fun hk g d hg hd => ?publishWritten⟩,
    fun hr => ⟨fun k hk => ?policyRange, fun hk hpast => ?past, fun hk hfits => ?policyWritten⟩⟩
  case watchRange => exact congrArg Host.Outcome.next (takeIf_writeRange hr hs ho (writeWatchArgs_range hk) rfl)
  case watchWritten =>
    have hx : subjectOf ((r.arg 1).getLsbD 1) (r.arg 2) = some x := by
      cases x with
      | tap t =>
        have hbit : (r.arg 1).getLsbD 1 = false := Bool.eq_false_iff.2 fun h => by
          obtain ⟨p, hp⟩ := hkind.1 h
          cases hp
        rw [hbit, subjectOf_tap (htap hbit t rfl)]
      | point p =>
        have hbit := hkind.2 ⟨p, rfl⟩
        rw [hbit, subjectOf_point (hpoint hbit p rfl)]
    refine congrArg Host.Outcome.next ((takeIf_written hr hs ho
      (writeWatchArgs_entry hk hw hx ((triggerOf_eq _).trans htr) hc) rfl).trans ?_)
    simp only [hw, countByte_toNat]; rfl
  case publishRange => exact congrArg Host.Outcome.next (takeIf_writeRange hr hs ho (writePublishArgs_range hk) rfl)
  case publishWritten =>
    refine congrArg Host.Outcome.next ((takeIf_written hr hs ho
      (writePublishArgs_entry hk hg ((directionOf_eq _).trans hd)) rfl).trans ?_)
    simp only [hg, countByte_toNat]; rfl
  case policyRange => exact congrArg Host.Outcome.next (takeIf_writeRange hr hs ho (writePolicyArgs_range hk) rfl)
  case past =>
    have hargs := (writePolicyArgs_eq hk).trans (if_pos hpast)
    cases hnames : Config.policyRunNamesCount (r.arg 0) (r.arg 1) <;> rw [hnames] at hargs
    case false => exact .inl (congrArg Host.Outcome.next (takeIf_writeRange hr hs ho hargs rfl))
    case true => exact .inr (congrArg Host.Outcome.next (takeIf_writeRange hr hs ho hargs rfl))
  case policyWritten =>
    refine congrArg Host.Outcome.next ((takeIf_written hr hs ho
      ((writePolicyArgs_eq hk).trans (if_neg (Nat.not_lt.2 hfits))) rfl).trans ?_)
    simp only [countByte_toNat]; rfl

end Sys2Proof.Machine

/-! PROOFS. READ-ENTRY, and the agreement of what it shows with what the writes take (chapters 8.4, 10.5). -/

namespace Sys2Proof.Machine

/-! ### The data of an entry -/

section EntryData

variable {b : Bank} {i : Nat}

theorem tableOf_eq (x : Byte) : tableOf x = [TableName.tap, .bind, .watch, .publish, .policy][x.toNat]? := by
  unfold tableOf
  match x.toNat with
  | 0 | 1 | 2 | 3 | 4 | _ + 5 => rfl

/-- The number of entries of a table. -/
def tableSize : TableName → Nat
  | .tap => 192
  | .bind => 128
  | .watch => 48
  | .publish => 4
  | .policy => 255

theorem entryData_tap (t : TapNo) : entryData b .tap t.val = some (tapEntryData (b.taps.get t)) := dif_pos t.isLt

theorem entryData_bind (p : PointNo) : entryData b .bind p.val = some (bindEntryData (b.binds.get p)) := dif_pos p.isLt

theorem entryData_watch (w : WatchNo) : entryData b .watch w.val = some (watchEntryData (b.watches.get w)) :=
  dif_pos w.isLt

theorem entryData_publish (g : GroupNo) : entryData b .publish g.val = some (publishRecordData (b.publish.get g)) :=
  dif_pos g.isLt

theorem entryData_policy (st : Fin 255) : entryData b .policy st.val = some (policyEntryData (b.policy.get st)) :=
  dif_pos st.isLt

theorem entryData_eq_none {table : TableName} (h : tableSize table ≤ i) : entryData b table i = none := by
  cases table <;> exact dif_neg (Nat.not_lt.2 h)

end EntryData

/-! ### The entries' bytes in the layout of chapter 10.5 -/

theorem setWidth_lineNumber (b : BitVec 5) : b.setWidth 8 = (0 : BitVec 3) ++ b :=
  BitVec.setWidth_eq_append (by decide)

theorem tapEntryData_eq (e : TapEntry) : tapEntryData e =
    [(0 : BitVec 4) ++ bit e.preset ++ bit e.invert ++ bit (e.side = .trunk) ++ bit e.enabled, e.station,
      e.slot ++ BitVec.ofNat 4 e.qualify, (0 : BitVec 3) ++ e.line, BitVec.ofNat 8 e.spacing, BitVec.ofNat 8 e.stale] := by
  rw [tapEntryData, beq_eq_decide, setWidth_lineNumber]; rfl

theorem sourceByte_of_source {e : BindEntry} {k : Nat} {t : TapNo} (h : e.sources[k]? = some t) :
    sourceByte e k = BitVec.ofNat 8 t.val := by
  rw [sourceByte, h]; rfl

theorem sourceByte_beyond {e : BindEntry} {k : Nat} (h : e.sources.length ≤ k) : sourceByte e k = 0 := by
  rw [sourceByte, List.getElem?_eq_none h]; rfl

/-! ### READ-ENTRY -/

section ReadEntry

variable {s : State} {r : Request} {b : Bank} {table : TableName}

/-- R143: the bank byte of a READ-ENTRY names a bank of the part, whose entry is answered. -/
def ReadsBank (s : State) (r : Request) (b : Bank) : Prop :=
  ∀ table, tableOf (r.arg 0) = some table →
    runReadEntry r (dequeued r s) = (dequeued r s, answerEntry (dequeued r s).bank b table (r.arg 2).toNat)

theorem readsBank_active (h : r.arg 1 = 0) : ReadsBank s r s.bank.active := fun table htable => by
  simp only [runReadEntry, htable, h, dequeued_bank_active]; rfl

theorem readsBank_shadow (h : r.arg 1 = 1) (hb : s.bank.shadow = some b) : ReadsBank s r b := fun table htable => by
  have hshadow := (dequeued_bank_shadow (r := r)).trans hb
  have hanswer : ∀ index, answerShadow (dequeued r s).bank table index = answerEntry (dequeued r s).bank b table index :=
    fun index => by simp only [answerShadow, hshadow]
  simp only [runReadEntry, htable, h, ← hanswer]; rfl

theorem exec_readEntry_shown {i : Nat} {data : List Byte} (hr : Ready s r 0x26) (hbank : ReadsBank s r b)
    (htable : tableOf (r.arg 0) = some table) (hi : i = (r.arg 2).toNat) (hdata : entryData b table i = some data) :
    exec .readEntry s = .next (answered s r 0 data) := by
  subst hi
  refine congrArg Host.Outcome.next (takeIf_unchanged hr (run := runReadEntry) (result := .ok) ?_ rfl rfl)
  rw [hbank table htable, answerEntry, hdata]

theorem exec_readEntry_beyond (hr : Ready s r 0x26) (hbank : ReadsBank s r b)
    (htable : tableOf (r.arg 0) = some table) (hi : tableSize table ≤ (r.arg 2).toNat) :
    exec .readEntry s = .next (answered s r 4 (sessionData s.bank)) := by
  refine congrArg Host.Outcome.next (takeIf_refused hr (run := runReadEntry) (result := .range) ?_ rfl rfl)
  rw [hbank table htable, answerEntry, entryData_eq_none hi]

theorem exec_readEntry_noShadow (hr : Ready s r 0x26) (htable : tableOf (r.arg 0) = some table) (h : r.arg 1 = 1)
    (hb : s.bank.shadow = none) : exec .readEntry s = .next (answered s r 3 (sessionData s.bank)) := by
  have hshadow := (dequeued_bank_shadow (r := r)).trans hb
  have hanswer : answerShadow (dequeued r s).bank table (r.arg 2).toNat = refuseSession .noSession (dequeued r s).bank := by
    simp only [answerShadow, hshadow]
  refine congrArg Host.Outcome.next (takeIf_refused hr (run := runReadEntry) (result := .noSession) ?_ rfl rfl)
  simp only [runReadEntry, htable, h, ← hanswer]; rfl

theorem exec_readEntry_unnamed (hr : Ready s r 0x26) (h : 5 ≤ (r.arg 0).toNat ∨ 2 ≤ (r.arg 1).toNat) :
    exec .readEntry s = .next (answered s r 4 (sessionData s.bank)) := by
  refine congrArg Host.Outcome.next (takeIf_refused hr (run := runReadEntry) (result := .range) ?_ rfl rfl)
  unfold runReadEntry
  split
  case h_3 => rfl
  all_goals
    next htable hview =>
      have hlt := (List.getElem?_eq_some_iff.1 ((tableOf_eq _).symm.trans htable)).1
      simp only [List.length_cons, List.length_nil] at hlt
      omega

end ReadEntry

/-- Settles O45: the first two bytes select the bank, and of it the entry that the third names is shown. -/
theorem readEntryShowsTheNamedBank : Obligations.ReadEntryShowsTheNamedBank := by
  intro s r hr table i refused byte shown
  have htables := tableOf_eq (r.arg 0)
  have hshown : ∀ b, ReadsBank s r b → shown b := by
    intro b hbank
    refine ⟨fun h t ht => ?tap, fun h p hp => ?bind, fun h w hw => ?watch, fun h g hg => ?publish,
      fun h st hst => ?policy, fun size hsize hi => ?beyond⟩
    case tap =>
      rw [exec_readEntry_shown hr hbank (htables.trans (congrArg _ h)) ht (entryData_tap t), tapEntryData_eq]
    case bind =>
      refine ⟨sourceByte (b.binds.get p), fun k t => sourceByte_of_source, fun k => sourceByte_beyond, ?_⟩
      exact exec_readEntry_shown hr hbank (htables.trans (congrArg _ h)) hp (entryData_bind p)
    case watch =>
      refine (exec_readEntry_shown hr hbank (htables.trans (congrArg _ h)) hw (entryData_watch w)).trans ?_
      dsimp only [watchEntryData]
      cases (b.watches.get w).subject <;> rfl
    case publish => exact exec_readEntry_shown hr hbank (htables.trans (congrArg _ h)) hg (entryData_publish g)
    case policy => exact exec_readEntry_shown hr hbank (htables.trans (congrArg _ h)) hst (entryData_policy st)
    case beyond =>
      have hsizes : [192, 128, 48, 4, 255] = [TableName.tap, .bind, .watch, .publish, .policy].map tableSize := rfl
      rw [hsizes, List.getElem?_map, Option.map_eq_some_iff] at hsize
      obtain ⟨name, hname, rfl⟩ := hsize
      exact (exec_readEntry_beyond hr hbank (htables.trans hname) hi).trans (by rw [sessionData_eq])
  refine ⟨fun h => ?unnamed, fun htable h => hshown _ (readsBank_active h), fun htable h => ⟨fun hb => ?noShadow,
    fun b hb => hshown b (readsBank_shadow h hb)⟩⟩
  case unnamed => exact (exec_readEntry_unnamed hr h).trans (by rw [sessionData_eq])
  case noShadow =>
    have hname := htables.trans (List.getElem?_eq_getElem htable)
    exact (exec_readEntry_noShadow hr hname h hb).trans (by rw [sessionData_eq])

/-! ### What a read shows, sent back by a write -/

/-- The argument bytes from the second on are these data bytes. -/
def SentBack (r : Request) (d : List Byte) : Prop := ∀ k b, d[k]? = some b → r.arg (k + 1) = b

theorem nibbles_toNat (a b : BitVec 4) : (a ++ b : Byte).toNat / 16 = a.toNat ∧ (a ++ b : Byte).toNat % 16 = b.toNat := by
  have hb := b.isLt
  rw [show (a ++ b : Byte).toNat = a.toNat * 16 + b.toNat by
    rw [BitVec.toNat_append, ← Nat.shiftLeft_add_eq_or_of_lt hb, Nat.shiftLeft_eq]]
  omega

theorem countByte_of_le {k : Nat} (h : k ≤ 255) : (countByte k).toNat = k := by
  rw [countByte, BitVec.toNat_ofNat, Nat.mod_eq_of_lt (by omega)]

/-- R175: the flags of a tap entry, bit by bit. -/
theorem tapFlags (preset invert trunk enabled : Bool) :
    let b : Byte := (0 : BitVec 4) ++ bit preset ++ bit invert ++ bit trunk ++ bit enabled
    b.toNat / 16 = 0 ∧ b.getLsbD 0 = enabled ∧ b.getLsbD 1 = trunk ∧ b.getLsbD 2 = invert ∧ b.getLsbD 3 = preset := by
  revert preset invert trunk enabled; decide

section SentBack

variable {r : Request}

theorem writeTapArgs_sentBack {t : TapNo} {e : TapEntry} (he : TapEntryOk e) (ht : (r.arg 0).toNat = t.val)
    (hd : SentBack r (tapEntryData e)) : writeTapArgs r = .entry t e := by
  obtain ⟨hstation, hq1, hq15, hs1, hs63, hstale⟩ := he
  have h1 := hd 0 _ rfl
  have h2 := hd 1 _ rfl
  have h3 := hd 2 _ rfl
  have h4 := hd 3 _ rfl
  have h5 := hd 4 _ rfl
  have h6 := hd 5 _ rfl
  obtain ⟨hupper, henabled, hside, hinvert, hpreset⟩ := tapFlags e.preset e.invert (e.side == .trunk) e.enabled
  obtain ⟨hslot, hqualify⟩ := nibbles_toNat e.slot (BitVec.ofNat 4 e.qualify)
  have hnibble : (BitVec.ofNat 4 e.qualify).toNat = e.qualify := Nat.mod_eq_of_lt (by omega)
  rw [hnibble] at hqualify
  have hport : (if (e.side == .trunk) = true then Port.trunk else .field) = e.side := by cases e.side <;> rfl
  have hline : (e.line.setWidth 8).toNat = e.line.toNat := BitVec.toNat_setWidth_of_le (by decide)
  have hspacing := countByte_of_le (k := e.spacing) (by omega)
  have hentry : requestedTap r = e := by
    simp only [requestedTap, h1, h2, h3, h4, h5, h6, henabled, hside, hinvert, hpreset, hslot, hqualify, hline, hspacing,
      countByte_of_le hstale, BitVec.ofNat_toNat, BitVec.setWidth_eq, hport]
  have htests : firstFailing (tapTests r) = none := by
    have := e.line.isLt
    simp only [tapTests, firstFailing_cons_eq_none, decide_eq_true_eq, ht, h1, h2, h3, h4, h5, hupper, hqualify, hline,
      hspacing, firstFailing_nil]
    exact ⟨t.isLt, trivial, hstation, by omega, by omega, ⟨hs1, hs63⟩, trivial⟩
  rw [writeTapArgs_entry htests ht.symm, hentry]

/-- R175: a bind entry's sources as the source bytes in use, each naming its tap. -/
theorem sources_sentBack {e : BindEntry} (hlen : e.sources.length ≤ 3) (h2 : r.arg 2 = sourceByte e 0)
    (h3 : r.arg 3 = sourceByte e 1) (h4 : r.arg 4 = sourceByte e 2) :
    e.sources.map (·.val) = [(r.arg 2).toNat, (r.arg 3).toNat, (r.arg 4).toNat].take e.sources.length := by
  have hval : ∀ t : TapNo, (countByte t.val).toNat = t.val := fun t => countByte_of_le (by omega)
  match hsources : e.sources, hlen with
  | [], _ | [_], _ | [_, _], _ | [_, _, _], _ => simp [h2, h3, h4, sourceByte, hsources, hval]

theorem sourceByte_lt (e : BindEntry) (k : Nat) : (sourceByte e k).toNat < 192 := by
  unfold sourceByte
  cases e.sources[k]? with
  | none => exact Nat.zero_lt_succ _
  | some t => exact (countByte_of_le (by omega)).trans_lt t.isLt

theorem repeatedSource_eq_none {l : List (Nat × Byte)} {seen : List Byte} (hnew : ∀ x ∈ l, x.2 ∉ seen)
    (hnodup : (l.map (·.2)).Nodup) : repeatedSource seen l = none := by
  induction l generalizing seen with
  | nil => rfl
  | cons x l ih =>
    obtain ⟨hx, hrest⟩ := List.nodup_cons.1 hnodup
    rw [repeatedSource, if_neg (by simpa using hnew x List.mem_cons_self)]
    refine ih (fun y hy hmem => ?_) hrest
    rcases List.mem_cons.1 hmem with heq | hseen
    · exact hx (List.mem_map.2 ⟨y, hy, heq⟩)
    · exact hnew y (List.mem_cons_of_mem _ hy) hseen

theorem combineCode_lookup (fn : Combine) : (combineCode fn).toNat ≤ 3 ∧
    [Combine.follow, .any, .all, .vote][(combineCode fn).toNat]? = some fn := by
  cases fn <;> decide

/-- R175: the low bit of a byte that holds nothing else. -/
theorem flagByte (b : Bool) :
    ((0 : BitVec 7) ++ bit b : Byte).toNat ≤ 1 ∧ decide (((0 : BitVec 7) ++ bit b : Byte) = 1) = b := by
  revert b; decide

theorem writeBindArgs_sentBack {p : PointNo} {e : BindEntry} (hlen : e.sources.length ≤ 3) (hnodup : e.sources.Nodup)
    (hhold : e.hold ≤ 255) (hp : (r.arg 0).toNat = p.val) (hd : SentBack r (bindEntryData e)) :
    writeBindArgs r = .entry p e := by
  have h1 := hd 0 _ rfl
  have h2 := hd 1 _ rfl
  have h3 := hd 2 _ rfl
  have h4 := hd 3 _ rfl
  have h5 := hd 4 _ rfl
  have h6 := hd 5 _ rfl
  have hsources := sources_sentBack hlen h2 h3 h4
  obtain ⟨hfn, hcount⟩ := nibbles_toNat (combineCode e.fn) (BitVec.ofNat 4 e.sources.length)
  have hnibble : (BitVec.ofNat 4 e.sources.length).toNat = e.sources.length := Nat.mod_eq_of_lt (by omega)
  rw [← h1] at hfn hcount
  rw [hnibble] at hcount
  obtain ⟨hcode, hlookup⟩ := combineCode_lookup e.fn
  obtain ⟨hle, hsafe⟩ := flagByte e.failSafe
  rw [← h5] at hle hsafe
  have htests : firstFailing (bindTests r) = none := by
    refine bindTests_eq_none.2 ⟨hp ▸ p.isLt, ⟨hfn ▸ hcode, hcount ▸ hlen⟩, ?_, hle⟩
    simp [sourceTests, firstFailing_cons, firstFailing_nil, h2, h3, h4, sourceByte_lt]
  have hdistinct : ((sourceArgs r e.sources.length).map (·.2)).Nodup := by
    refine List.Nodup.of_map BitVec.toNat ?_
    rw [sourceArgs, List.map_take, List.map_take]
    exact hsources ▸ hnodup.map Fin.val_injective
  rw [← hcount] at hsources hdistinct
  rw [writeBindArgs_entry htests hp.symm (hfn ▸ hlookup) hsources
    (repeatedSource_eq_none (fun _ _ => List.not_mem_nil) hdistinct), hsafe, h6, countByte_of_le hhold]

theorem triggerOf_triggerCode (tr : Trigger) : triggerOf ((0 : BitVec 5) ++ triggerCode tr) = some tr := by
  cases tr <;> rfl

theorem directionOf_directionCode (d : Direction) : directionOf (directionCode d) = some d := by
  cases d <;> rfl

/-- R175: the flags of a watch entry, bit by bit. -/
theorem watchFlags (point enabled : Bool) :
    let b : Byte := (0 : BitVec 6) ++ bit point ++ bit enabled
    b.toNat < 4 ∧ b.getLsbD 0 = enabled ∧ b.getLsbD 1 = point := by
  revert point enabled; decide

theorem subjectOf_subject (x : Subject) : subjectOf (subjectKind x) (countByte (subjectNumber x)) = some x := by
  cases x with
  | tap t => exact subjectOf_tap (countByte_of_le (by omega)).symm
  | point p => exact subjectOf_point (countByte_of_le (by omega)).symm

theorem writeWatchArgs_sentBack {w : WatchNo} {e : WatchEntry} (hholdoff : e.holdoff ≤ 255)
    (hw : (r.arg 0).toNat = w.val) (hd : SentBack r (watchEntryData e)) : writeWatchArgs r = .entry w e := by
  have h1 := hd 0 _ rfl
  have h2 := hd 1 _ rfl
  have h3 := hd 2 _ rfl
  have h4 := hd 3 _ rfl
  have h5 := hd 4 _ rfl
  obtain ⟨hupper, henabled, hkind⟩ := watchFlags (subjectKind e.subject) e.enabled
  have hx : subjectOf ((r.arg 1).getLsbD 1) (r.arg 2) = some e.subject := by
    rw [h1, h2, hkind, subjectOf_subject]
  have htr : triggerOf (r.arg 3) = some e.trigger := by rw [h3, triggerOf_triggerCode]
  have hcls : (r.arg 4).toNat = e.cls.val := by rw [h4, countByte_of_le (by omega)]
  have htests : firstFailing (watchTests r) = none := by
    rw [← h1] at hupper
    simp only [watchTests, ← subjectOf_isSome, ← triggerOf_isSome, firstFailing_cons_eq_none, decide_eq_true_eq, hx, htr,
      hw, hcls, hupper, Option.isSome_some, firstFailing_nil]
    exact ⟨w.isLt, trivial, trivial, trivial, e.cls.isLt, trivial⟩
  rw [writeWatchArgs_entry htests hw.symm hx htr hcls.symm, h1, h5, henabled, countByte_of_le hholdoff]

theorem writePublishArgs_sentBack {g : GroupNo} {e : PublishRecord} (hperiod : e.period ≤ 255)
    (hg : (r.arg 0).toNat = g.val) (hd : SentBack r (publishRecordData e)) : writePublishArgs r = .entry g e := by
  have h1 := hd 0 _ rfl
  have h2 := hd 1 _ rfl
  have h3 := hd 2 _ rfl
  have hdirection : directionOf (r.arg 1) = some e.direction := by rw [h1, directionOf_directionCode]
  obtain ⟨hle, hchange⟩ := flagByte e.onChange
  have htests : firstFailing (publishTests r) = none := by
    simp only [publishTests, ← directionOf_isSome, firstFailing_cons_eq_none, decide_eq_true_eq, hdirection, hg, h3, hle,
      Option.isSome_some, firstFailing_nil]
    exact ⟨g.isLt, trivial, trivial, trivial⟩
  rw [writePublishArgs_entry htests hg.symm hdirection, h2, h3, hchange, countByte_of_le hperiod]

end SentBack

/-- Settles O53: table by table, each field stands where the write reads it, and the write's tests accept it. -/
theorem entryReadsAndWritesAgree : Obligations.EntryReadsAndWritesAgree := by
  refine fun r => ⟨fun t e => writeTapArgs_sentBack, fun p e => writeBindArgs_sentBack,
    fun w e => writeWatchArgs_sentBack, fun g e => writePublishArgs_sentBack, fun op => ?_⟩
  cases op <;> rfl

end Sys2Proof.Machine

/-! PROOFS. Indicators and resets, gates and delivery settings, and the reads of taps, points and watches (chapters
1.8, 2.8, 3.6, 3.9, 4.1, 9.4). -/

namespace Sys2Proof.Machine

section Operations

variable {s : State} {r : Request}

/-- R160 to R163: a request whose run makes a change that the response does not see is answered, and the change is
all else. -/
theorem takeIf_changed {op code : Byte} {wanted : Byte → Bool} {run : Request → State → State × Answer}
    {result : Result} {data : List Byte} (change : State → State) (hr : Ready s r op)
    (hrun : run r (dequeued r s) = (change (dequeued r s), ⟨result, data⟩))
    (happart : ∀ a t, respond r a (change t) = change (respond r a t)) (hw : wanted op = true)
    (hcode : resultCode result = code) : takeIf wanted run s = change (answered s r code data) := by
  rw [takeIf_ready hr wanted run hw, hrun, happart, respond_dequeued, hcode]

/-! ### CLEAR-INDICATORS and RESET-PART -/

theorem getLsbD_clearNamed (ind mask : Indicators) (i : Nat) (hi : i < 9) :
    (clearNamed ind mask).getLsbD i = (ind.getLsbD i && !mask.getLsbD i) := by
  simp [clearNamed, hi]

theorem exec_clearIndicators_clears (hr : Ready s r 0x04) (hmask : (r.arg16 0).toNat < 512) :
    let after := clearNamed s.engine.indicators ((r.arg16 0).setWidth 9)
    let a := answered s r 0 (countData (indicatorMask s.engine.indicators) ++ countData (indicatorMask after))
    exec .clearIndicators s = .next { a with engine := { a.engine with indicators := after } } :=
  congrArg Host.Outcome.next (takeIf_changed
    (fun t => { t with engine := { t.engine with
      indicators := clearNamed s.engine.indicators ((r.arg16 0).setWidth 9) } })
    hr (if_pos hmask) (fun _ _ => rfl) rfl rfl)

theorem exec_clearIndicators_outOfRange (hr : Ready s r 0x04) (hmask : 512 ≤ (r.arg16 0).toNat) :
    exec .clearIndicators s = .next (answered s r 4 []) :=
  congrArg Host.Outcome.next (takeIf_unchanged hr (run := runClearIndicators) (result := .range)
    (if_neg (Nat.not_lt.2 hmask)) rfl rfl)

/-- R168, R169: the engine RESET-PENDING, its response waiting or already gone. -/
theorem exec_resetPart_pending {scope : Scope} (hr : Ready s r 0x05) (hscope : scopeOf (r.arg 0) = some scope) :
    let a := answered s r 0 [r.arg 0]
    exec .resetPart s = .next { a with engine := { a.engine with
      state := .resetPending scope (if s.trunk.line = .up then .queued else .gone) } } := by
  have hstage : stageAtPlacing s.trunk = if s.trunk.line = .up then .queued else .gone := by
    unfold stageAtPlacing; cases s.trunk.line <;> rfl
  rw [← hstage]
  refine congrArg Host.Outcome.next (takeIf_changed
    (fun t => { t with engine := { t.engine with state := .resetPending scope (stageAtPlacing s.trunk) } })
    hr (run := runResetPart) (result := .ok) ?_ (fun _ _ => rfl) rfl rfl)
  simp only [runResetPart, hscope]; rfl

theorem scopeOf_eq_none {b : Byte} (h : 2 ≤ b.toNat) : scopeOf b = none := by
  obtain ⟨j, hj⟩ := Nat.exists_eq_add_of_le' h
  rw [scopeOf, hj]; rfl

theorem exec_resetPart_outOfRange (hr : Ready s r 0x05) (h : 2 ≤ (r.arg 0).toNat) :
    exec .resetPart s = .next (answered s r 4 []) := by
  refine congrArg Host.Outcome.next (takeIf_unchanged hr (run := runResetPart) (result := .range) ?_ rfl rfl)
  simp only [runResetPart, scopeOf_eq_none h]; rfl

/-! ### GATE and SET-DELIVERY -/

theorem gateAfter_eq (openMask closeMask : Byte) (c : ClassNo) (was : Bool) :
    gateAfter openMask closeMask c was = (openMask.getLsbD c.val || (was && !closeMask.getLsbD c.val)) := by
  unfold gateAfter
  cases openMask.getLsbD c.val <;> cases closeMask.getLsbD c.val <;> simp

/-- R64: the four gates after a GATE with these masks. -/
def gatesAfter (r : Request) (gates : Tab 4 Bool) : Tab 4 Bool :=
  Tab.ofFn fun c => gateAfter (r.arg 0) (r.arg 1) c (gates.get c)

theorem exec_gate_sets (hr : Ready s r 0x41) (h0 : (r.arg 0).toNat < 16) (h1 : (r.arg 1).toNat < 16) :
    let gates := gatesAfter r s.notice.gates
    exec .gate s = .next { answered s r 0 [openGates gates] with notice := { s.notice with gates := gates } } :=
  congrArg Host.Outcome.next (takeIf_changed
    (fun t => { t with notice := { s.notice with gates := gatesAfter r s.notice.gates } })
    hr (run := runGate) (result := .ok) (if_neg (by omega)) (fun _ _ => rfl) rfl rfl)

theorem exec_gate_outOfRange (hr : Ready s r 0x41) (h : 16 ≤ (r.arg 0).toNat ∨ 16 ≤ (r.arg 1).toNat) :
    exec .gate s = .next (answered s r 4 []) :=
  congrArg Host.Outcome.next (takeIf_unchanged hr (run := runGate) (result := .range) (if_pos h) rfl rfl)

theorem deliveryArgsOk_iff (r : Request) : deliveryArgsOk r = true ↔
    1 ≤ (r.arg 0).toNat ∧ (r.arg 0).toNat ≤ 4 ∧ 1 ≤ (r.arg 1).toNat ∧ (r.arg 2).toNat ≤ 7 := by
  simp [deliveryArgsOk, and_assoc]

theorem exec_setDelivery_sets (hr : Ready s r 0x43) (hok : deliveryArgsOk r = true) : exec .setDelivery s = .next
    { answered s r 0 [r.arg 0, r.arg 1, r.arg 2, BitVec.ofNat 8 s.delivery.inFlight.length] with
      delivery := { s.delivery with
        budget := (r.arg 0).toNat, retryInterval := (r.arg 1).toNat, attempts := (r.arg 2).toNat } } :=
  congrArg Host.Outcome.next (takeIf_changed
    (fun t => { t with delivery := { s.delivery with
      budget := (r.arg 0).toNat, retryInterval := (r.arg 1).toNat, attempts := (r.arg 2).toNat } })
    hr (run := runSetDelivery) (result := .ok) (if_pos hok) (fun _ _ => rfl) rfl rfl)

theorem exec_setDelivery_outOfRange (hr : Ready s r 0x43) (hbad : ¬deliveryArgsOk r = true) :
    exec .setDelivery s = .next (answered s r 4 []) :=
  congrArg Host.Outcome.next (takeIf_unchanged hr (run := runSetDelivery) (result := .range) (if_neg hbad) rfl rfl)

end Operations

/-- Settles O39: the mask's range, or the scope's, selects the outcome, and the response's place the stage. -/
theorem indicatorsAreClearedAndResetsMadePending : Obligations.IndicatorsAreClearedAndResetsMadePending := by
  refine fun s r => ⟨fun hr => ⟨fun hmask => ⟨_, clearNamed s.engine.indicators ((r.arg16 0).setWidth 9), ?clears,
      fun i hi => ?bits, rfl⟩, exec_clearIndicators_outOfRange hr⟩,
    fun hr => ⟨fun h => ?runtime, fun h => ?full, exec_resetPart_outOfRange hr⟩⟩
  case clears =>
    refine (exec_clearIndicators_clears hr hmask).trans ?_
    rw [countData_indicatorMask, countData_indicatorMask]; rfl
  case bits =>
    rw [getLsbD_clearNamed _ _ i hi, BitVec.getLsbD_setWidth, decide_eq_true hi, Bool.true_and]; rfl
  case runtime => exact exec_resetPart_pending hr (by rw [h]; rfl)
  case full => exact exec_resetPart_pending hr (by rw [h]; rfl)

/-- Settles O51: the masks' ranges, and the settings', select the outcome, and nothing set is part of the taking. -/
theorem gateAndSetDeliveryConfigureTheNoticeUnit : Obligations.GateAndSetDeliveryConfigureTheNoticeUnit := by
  refine fun s r => ⟨fun hr => ⟨fun h0 h1 => ⟨gatesAfter r s.notice.gates, fun c => ?gates, exec_gate_sets hr h0 h1⟩,
    exec_gate_outOfRange hr⟩, fun hr => ⟨fun hok => ?sets, fun hbad => ?outOfRange⟩⟩
  case gates => rw [gatesAfter, get_ofFn, gateAfter_eq]
  case sets => exact exec_setDelivery_sets hr ((deliveryArgsOk_iff r).2 hok)
  case outOfRange => exact exec_setDelivery_outOfRange hr fun h => hbad ((deliveryArgsOk_iff r).1 h)

/-! ### READ-TAP-STATE and READ-POINT-STATE -/

section Reads

variable {s : State} {r : Request}

theorem tapStateView_eq (e : TapEntry) (x : TapRecord) : tapStateView e x =
    [(0 : BitVec 1) ++ conditionCode (.tap x.cond) ++ bit x.candidate ++ bit x.qualified ++ bit (e.side = .trunk)
      ++ bit e.enabled, BitVec.ofNat 8 x.run, BitVec.ofNat 8 x.spacing, BitVec.ofNat 8 x.age] := by
  rw [tapStateView, beq_eq_decide]; rfl

theorem exec_readTapState_state {t : TapNo} (hr : Ready s r 0x30) (ht : t.val = (r.arg 0).toNat) (hview : r.arg 1 = 0) :
    exec .readTapState s = .next (answered s r 0 (tapStateView (s.tap.entries.get t) (s.tap.records.get t))) := by
  refine congrArg Host.Outcome.next (takeIf_unchanged hr (run := runReadTapState) (result := .ok) ?_ rfl rfl)
  simp only [runReadTapState, tapNo?_eq_some ht, hview]; rfl

theorem exec_readTapState_counts {t : TapNo} (hr : Ready s r 0x30) (ht : t.val = (r.arg 0).toNat) (hview : r.arg 1 = 1) :
    exec .readTapState s = .next (answered s r 0 (tapCountsView (s.tap.records.get t))) := by
  refine congrArg Host.Outcome.next (takeIf_unchanged hr (run := runReadTapState) (result := .ok) ?_ rfl rfl)
  simp only [runReadTapState, tapNo?_eq_some ht, hview]; rfl

theorem exec_readTapState_outOfRange (hr : Ready s r 0x30) (h : 192 ≤ (r.arg 0).toNat ∨ 2 ≤ (r.arg 1).toNat) :
    exec .readTapState s = .next (answered s r 4 []) := by
  refine congrArg Host.Outcome.next (takeIf_unchanged hr (run := runReadTapState) (result := .range) ?_ rfl rfl)
  have htap := tapNo?_isSome (r.arg 0)
  unfold runReadTapState
  split
  case h_3 => rfl
  all_goals
    next hsome hview =>
      rw [hsome, Option.isSome_some, eq_comm, decide_eq_true_eq] at htap
      omega

/-- R40, R47: the free records of the force table. -/
theorem freeForces_eq (s : State) :
    freeForces s = 16 - (List.finRange 128).countP fun q => (s.xc.forces.get q).isSome := by
  rw [freeForces, forceCount, indices_eq, ← List.countP_eq_length_filter]

theorem exec_readPointState_state {p : PointNo} (hr : Ready s r 0x38) (hp : p.val = (r.arg 0).toNat)
    (hview : r.arg 1 = 0) :
    exec .readPointState s = .next (answered s r 0 (pointStateView (s.xc.forces.get p) (s.xc.records.get p))) := by
  refine congrArg Host.Outcome.next (takeIf_unchanged hr (run := runReadPointState) (result := .ok) ?_ rfl rfl)
  simp only [runReadPointState, pointNo?_eq_some hp, hview]; rfl

theorem exec_readPointState_force {p : PointNo} (hr : Ready s r 0x38) (hp : p.val = (r.arg 0).toNat)
    (hview : r.arg 1 = 1) :
    exec .readPointState s = .next (answered s r 0 (pointForceView s (s.xc.forces.get p))) := by
  refine congrArg Host.Outcome.next (takeIf_unchanged hr (run := runReadPointState) (result := .ok) ?_ rfl rfl)
  simp only [runReadPointState, pointNo?_eq_some hp, hview]; rfl

theorem exec_readPointState_outOfRange (hr : Ready s r 0x38) (h : 128 ≤ (r.arg 0).toNat ∨ 2 ≤ (r.arg 1).toNat) :
    exec .readPointState s = .next (answered s r 4 []) := by
  refine congrArg Host.Outcome.next (takeIf_unchanged hr (run := runReadPointState) (result := .range) ?_ rfl rfl)
  have hpoint := pointNo?_isSome (r.arg 0)
  unfold runReadPointState
  split
  case h_3 => rfl
  all_goals
    next hsome hview =>
      rw [hsome, Option.isSome_some, eq_comm, decide_eq_true_eq] at hpoint
      omega

/-! ### READ-WATCH-STATE -/

theorem watchNo?_eq_some {b : Byte} {w : WatchNo} (h : w.val = b.toNat) : watchNo? b = some w := by
  rw [watchNo?, dif_pos (h ▸ w.isLt)]
  exact congrArg some (Fin.ext h.symm)

theorem exec_readWatchState_watch {w : WatchNo} (hr : Ready s r 0x40) (hview : r.arg 0 = 0)
    (hw : w.val = (r.arg 1).toNat) : exec .readWatchState s = .next (answered s r 0 (watchView s w)) := by
  refine congrArg Host.Outcome.next (takeIf_unchanged hr (run := runReadWatchState) (result := .ok) ?_ rfl rfl)
  simp only [runReadWatchState, hview, watchNo?_eq_some hw]; rfl

theorem exec_readWatchState_queue (hr : Ready s r 0x40) (hview : r.arg 0 = 1) (hk : (r.arg 1).toNat < 24) :
    exec .readWatchState s = .next (answered s r 0 (queueView s (r.arg 1).toNat)) := by
  refine congrArg Host.Outcome.next (takeIf_unchanged hr (run := runReadWatchState) (result := .ok) ?_ rfl rfl)
  simp only [runReadWatchState, hview]
  exact if_pos hk

theorem exec_readWatchState_outOfRange (hr : Ready s r 0x40) (h : (r.arg 0 = 0 ∧ 48 ≤ (r.arg 1).toNat) ∨
    (r.arg 0 = 1 ∧ 24 ≤ (r.arg 1).toNat) ∨ 2 ≤ (r.arg 0).toNat) :
    exec .readWatchState s = .next (answered s r 4 []) := by
  refine congrArg Host.Outcome.next (takeIf_unchanged hr (run := runReadWatchState) (result := .range) ?_ rfl rfl)
  obtain ⟨hview, hw⟩ | ⟨hview, hk⟩ | hview := h
  · have hnone : watchNo? (r.arg 1) = none := dif_neg (Nat.not_lt.2 hw)
    simp only [runReadWatchState, hview, hnone]; rfl
  · simp only [runReadWatchState, hview]
    exact if_neg (Nat.not_lt.2 hk)
  · obtain ⟨j, hj⟩ := Nat.exists_eq_add_of_le' hview
    simp only [runReadWatchState, hj]; rfl

theorem inFlightFor_eq_countP (s : State) (w : WatchNo) :
    inFlightFor s w = s.delivery.inFlight.countP fun f => f.notice.watch = w :=
  List.countP_eq_length_filter.symm

/-- R71: a watch with no queued notice shows none. -/
theorem queuePlace_none {w : WatchNo} (h : ∀ n ∈ s.notice.queue, n.watch ≠ w) : queuePlace s w = [0xFF, 0] := by
  have hfind : (s.notice.queue.find? fun n => n.watch == w) = none := by simpa using h
  rw [queuePlace, hfind]

/-- R71: the first queued notice of a watch shows its place and its count. -/
theorem queuePlace_first {w : WatchNo} {l l' : List Notice} {n : Notice} (hqueue : s.notice.queue = l ++ n :: l')
    (hfirst : ∀ m ∈ l, m.watch ≠ w) (hn : n.watch = w) :
    queuePlace s w = [BitVec.ofNat 8 l.length, BitVec.ofNat 8 n.count] := by
  have hnone : (l.find? fun m => m.watch == w) = none := by simpa using hfirst
  have hindex : (l.findIdx fun m => m.watch == w) = l.length := by simpa using hfirst
  simp only [queuePlace, hqueue, List.find?_append, hnone, Option.none_or, List.find?_cons, List.findIdx_append, hindex, hn,
    beq_self_eq_true, List.findIdx_cons, Nat.lt_irrefl, if_false, cond_true, Nat.zero_add]
  rfl

theorem queueView_beyond {k : Nat} (h : s.notice.queue.length ≤ k) :
    queueView s k = [1#1 ++ (0 : BitVec 2) ++ BitVec.ofNat 5 s.notice.queue.length] := by
  rw [queueView, List.getElem?_eq_none h]; rfl

theorem queueView_notice {k : Nat} {n : Notice} (h : s.notice.queue[k]? = some n) : queueView s k =
    [(0 : BitVec 3) ++ BitVec.ofNat 5 s.notice.queue.length, BitVec.ofNat 8 n.watch.val,
      (0 : BitVec 2) ++ BitVec.ofNat 2 n.cls.val ++ (0 : BitVec 1) ++ triggerCode n.trigger, BitVec.ofNat 8 n.count,
      highByte n.first, lowByte n.first] := by
  rw [queueView, h]; rfl

end Reads

/-- Settles O48: the number and the view byte select what is shown. -/
theorem tapAndPointReadsShowTheRecords : Obligations.TapAndPointReadsShowTheRecords := by
  refine fun s r => ⟨fun hr => ⟨fun t ht => ⟨fun hview => ?tapState, exec_readTapState_counts hr ht⟩,
      exec_readTapState_outOfRange hr⟩,
    fun hr => ⟨fun p hp => ⟨exec_readPointState_state hr hp, fun hview hnone => ?unforced, fun f hview hsome => ?forced⟩,
      exec_readPointState_outOfRange hr⟩⟩
  case tapState => rw [exec_readTapState_state hr ht hview, tapStateView_eq]
  case unforced =>
    rw [exec_readPointState_force hr hp hview, hnone, pointForceView, freeForces_eq]; rfl
  case forced =>
    rw [exec_readPointState_force hr hp hview, hsome, pointForceView, freeForces_eq]; rfl

/-- Settles O50: the view byte selects the record or the queue, and the queue's split the place that is shown. -/
theorem watchReadsShowTheRecordsAndTheQueue : Obligations.WatchReadsShowTheRecordsAndTheQueue := by
  refine fun s r hr => ⟨fun hview w hw => ⟨fun hnone => ?noNotice, fun l n l' hqueue hfirst hn => ?notice⟩,
    fun hview hk => ⟨fun hlen => ?beyond, fun l n l' hqueue hlen => ?position⟩, exec_readWatchState_outOfRange hr⟩
  case noNotice =>
    rw [exec_readWatchState_watch hr hview hw, watchView, queuePlace_none hnone, inFlightFor_eq_countP]; rfl
  case notice =>
    rw [exec_readWatchState_watch hr hview hw, watchView, queuePlace_first hqueue hfirst hn, inFlightFor_eq_countP]
    rfl
  case beyond => rw [exec_readWatchState_queue hr hview hk, queueView_beyond hlen]
  case position =>
    have hget : s.notice.queue[(r.arg 1).toNat]? = some n := by rw [hqueue, ← hlen]; simp
    rw [exec_readWatchState_queue hr hview hk, queueView_notice hget]

end Sys2Proof.Machine

/-! PROOFS. What the resets leave (chapters 1.2, 2.3, 3.2, 4.6, 5.3, 6.8, 7.7, 8.9, 9.6). -/

namespace Sys2Proof.Machine

/-! ### The straps -/

section Straps

variable (straps : Byte)

theorem strapsInvalid_iff : strapsInvalid straps = true ↔ straps = 0 ∨ straps = 255 := by
  simp [strapsInvalid]

theorem stationOf_eq : stationOf straps = strapStation straps := by
  simp only [stationOf, strapStation, strapsInvalid_iff, Config.fallbackStation]

theorem strapMark_eq : strapMark straps = strapInvalidBit straps := by
  simp only [strapMark, strapInvalidBit, strapsInvalid_iff, indicatorBit]

end Straps

/-! ### A reset that empties the active bank -/

theorem initialTaps_emptyBank : (Tab.ofFn fun t => initialTap (emptyBank.taps.get t)) =
    Tab.fill 192 (initialTap emptyTapEntry) :=
  tab_ext fun t => by rw [get_ofFn, get_fill]; exact congrArg initialTap (get_fill _ t)

theorem initialPoints_emptyBank : (Tab.ofFn fun p => initialPoint (emptyBank.binds.get p) none) =
    Tab.fill 128 (initialPoint emptyBindEntry none) :=
  tab_ext fun p => by rw [get_ofFn, get_fill]; exact congrArg (initialPoint · none) (get_fill _ p)

theorem resetTapUnit_emptyBank :
    resetTapUnit emptyBank = ⟨emptyBank.taps, Tab.fill 192 (initialTap emptyTapEntry), []⟩ := by
  rw [resetTapUnit, initialTaps_emptyBank]

theorem resetCrossConnect_emptyBank : resetCrossConnect emptyBank =
    ⟨emptyBank.binds, Tab.fill 128 (initialPoint emptyBindEntry none), Tab.fill 128 none, [], [], 0⟩ := by
  rw [resetCrossConnect, initialPoints_emptyBank]

/-- R3, R34, R50, R73, R86, R90, R113, R134, R156: a reset other than RUNTIME leaves the emptied part, with ports and
engine as its cause has them. -/
theorem resetPartAs_emptied {k : ResetCause} (hk : k ≠ .runtime) (s : State) :
    resetPartAs k s = emptiedPart s s.straps s.resetLine (portAfterReset k s.trunk) (portAfterReset k s.field)
      (resetEngine k s.straps s.engine) := by
  have hreset : resetPartAs k s = { emptiedPart s s.straps s.resetLine (portAfterReset k s.trunk)
      (portAfterReset k s.field) (resetEngine k s.straps s.engine) with
        tap := resetTapUnit emptyBank, xc := resetCrossConnect emptyBank } := by
    cases k with
    | powerOn | resetLine | full => rfl
    | runtime => exact absurd rfl hk
  rw [hreset, resetTapUnit_emptyBank, resetCrossConnect_emptyBank]; rfl

/-- R157, R172: the engine after power-on. -/
theorem resetEngine_powerOn (straps : Byte) (e : Engine) : resetEngine .powerOn straps e =
    ⟨strapStation straps, [], .running, strapInvalidBit straps, .powerOn, 0⟩ := by
  rw [← stationOf_eq, ← strapMark_eq]; rfl

/-- R157, R170, R172: the engine after release of the reset line. -/
theorem resetEngine_resetLine (straps : Byte) (e : Engine) : resetEngine .resetLine straps e =
    ⟨strapStation straps, [], .running, e.indicators ||| 0x100 ||| strapInvalidBit straps, .resetLine, 0⟩ := by
  rw [← stationOf_eq, ← strapMark_eq]; rfl

theorem exec_powerOn (straps : Byte) (s : State) : exec (.powerOn straps) s =
    .next (emptiedPart s straps s.resetLine (startingPort s.trunk.signal) (startingPort s.field.signal)
      ⟨strapStation straps, [], .running, strapInvalidBit straps, .powerOn, 0⟩) := by
  rw [← resetEngine_powerOn straps s.engine]
  exact congrArg Host.Outcome.next (resetPartAs_emptied (k := .powerOn) nofun { s with straps := straps })

theorem exec_resetLineRelease (straps : Byte) (s : State) : exec (.resetLineRelease straps) s =
    .next (emptiedPart s straps false (startingPort s.trunk.signal) (startingPort s.field.signal)
      ⟨strapStation straps, [], .running, s.engine.indicators ||| 0x100 ||| strapInvalidBit straps, .resetLine, 0⟩) := by
  rw [← resetEngine_resetLine straps s.engine]
  exact congrArg Host.Outcome.next (resetPartAs_emptied (k := .resetLine) nofun
    { s with straps := straps, resetLine := false })

theorem exec_resetPartTakesEffect_full {s : State} (free : s.resetLine = false)
    (h : s.engine.state = .resetPending .full .gone) : exec .resetPartTakesEffect s =
      .next (resetPartAs .full s) := by
  refine congrArg Host.Outcome.next ?_
  rw [unlessHeld_free free, pendingResetActs, h]

theorem exec_resetPartTakesEffect_runtime {s : State} (free : s.resetLine = false)
    (h : s.engine.state = .resetPending .runtime .gone) : exec .resetPartTakesEffect s =
      .next (resetPartAs .runtime s) := by
  refine congrArg Host.Outcome.next ?_
  rw [unlessHeld_free free, pendingResetActs, h]

/-- Settles O4: three of the causes empty the part; a RUNTIME reset starts the runtime records of the active bank. -/
theorem resetsLeaveTheStatedValues : Obligations.ResetsLeaveTheStatedValues := by
  refine fun s straps => ⟨exec_powerOn straps s, exec_resetLineRelease straps s, fun free h => ?full,
    fun free h => ?runtime⟩
  case full =>
    rw [exec_resetPartTakesEffect_full free h, resetPartAs_emptied (k := .full) nofun, free]; rfl
  case runtime => exact exec_resetPartTakesEffect_runtime free h

/-- Settles O5: the state power-on leaves at straps 60 is the initial state field by field. -/
theorem powerOnReachesTheResetState : Obligations.PowerOnReachesTheResetState := by
  refine ⟨fun s hpending hline htrunk hfield => ?_, rfl, rfl, rfl, rfl, rfl⟩
  rw [exec_powerOn, emptiedPart, hpending, hline, htrunk, hfield]; rfl

/-- R172: power-on leaves the initial state as it is. -/
theorem resetPartAs_reset : resetPartAs .powerOn State.reset = State.reset := by
  rw [resetPartAs_emptied (k := .powerOn) nofun]; rfl

theorem portsInv_reset : PortsInv State.reset := by
  have hport : PortOk State.resetPort := by unfold PortOk; decide
  exact ⟨hport, hport, rfl, rfl, by decide⟩

theorem tapsInv_reset : TapsInv State.reset := by
  refine ⟨bankTapsOk_emptyBank, nofun, nofun, bankTapsOk_emptyBank, fun t => ?_⟩
  have hrecord : State.reset.tap.records.get t = initialTap (emptyBank.taps.get t) := by
    rw [show State.reset.tap.records = _ from initialTaps_emptyBank.symm, get_ofFn]
  rw [hrecord]
  exact tapOk_initialTap (bankTapsOk_emptyBank t)

theorem banksInv_reset : BanksInv State.reset := by
  refine ⟨?_, validate_emptyBank _, nofun⟩
  unfold SessionOk; decide

/-- Settles O60: a reset of the part establishes the points' and the notices' invariants, and the initial state is what
a power-on makes of itself; of the other three the empty bank and the empty ports are instances. -/
theorem resetStateMeetsTheInvariants : Obligations.ResetStateMeetsTheInvariants := by
  refine ⟨portsInv_reset, tapsInv_reset, ?_, ?_, banksInv_reset⟩
  · exact resetPartAs_reset ▸ pointsInv_resetPartAs .powerOn State.reset
  · exact resetPartAs_reset ▸ noticesInv_resetPartAs .powerOn State.reset

end Sys2Proof.Machine

/-! PROOFS. The cell's bytes and its fields, the check, and the cells the part makes (chapter 10). -/

namespace Sys2Proof.Machine

/-! ### Joining and cutting bit vectors -/

theorem append_inj {v w : Nat} {a a' : BitVec v} {b b' : BitVec w} (h : a ++ b = a' ++ b') : a = a' ∧ b = b' := by
  have hleft := congrArg (·.extractLsb' w v) h
  have hright := congrArg (·.extractLsb' 0 w) h
  simp only [BitVec.extractLsb'_append_eq_left, BitVec.extractLsb'_append_eq_right] at hleft hright
  exact ⟨hleft, hright⟩

theorem extractLsb'_extractLsb' {w : Nat} (x : BitVec w) {start len start' len' : Nat} (h : start' + len' ≤ len) :
    (x.extractLsb' start len).extractLsb' start' len' = x.extractLsb' (start + start') len' := by
  ext i hi
  simp only [BitVec.getElem_extractLsb', BitVec.getLsbD_extractLsb']
  rw [decide_eq_true (by omega), Bool.true_and, Nat.add_assoc]

/-! ### The bytes and the fields of a cell -/

theorem toRaw_ofRaw (raw : RawCell) : (Cell.ofRaw raw).toRaw = raw := by
  simp only [Cell.ofRaw, Cell.toRaw]
  iterate 8 rw [BitVec.extractLsb'_append_extractLsb'_eq_extractLsb']
  · exact BitVec.extractLsb'_eq_self
  all_goals rfl

theorem toRaw_injective {c d : Cell} (h : c.toRaw = d.toRaw) : c = d := by
  obtain ⟨h, hcheck⟩ := append_inj (v := 112) h
  obtain ⟨h, hstamp⟩ := append_inj (v := 96) h
  obtain ⟨h, hpayload⟩ := append_inj (v := 32) h
  obtain ⟨h, hsequence⟩ := append_inj (v := 24) h
  obtain ⟨h, hslot⟩ := append_inj (v := 20) h
  obtain ⟨h, hspare⟩ := append_inj (v := 16) h
  obtain ⟨h, hstation⟩ := append_inj (v := 8) h
  obtain ⟨hkind, hflags⟩ := append_inj h
  cases c
  simp_all

theorem ofRaw_toRaw (c : Cell) : Cell.ofRaw c.toRaw = c := toRaw_injective (toRaw_ofRaw c.toRaw)

/-! ### The check -/

/-- The bits of a field in the order they are sent, most significant first. -/
def lineOrder {w : Nat} (x : BitVec w) : List Bool := (List.range w).map x.getMsbD

theorem lineBits_eq (r : RawCell) : lineBits r = lineOrder r := by
  rw [lineBits, lineOrder, indices_eq, ← List.map_coe_finRange_eq_range, List.map_map]; rfl

theorem length_lineOrder {w : Nat} (x : BitVec w) : (lineOrder x).length = w := by simp [lineOrder]

theorem lineOrder_append {v w : Nat} (x : BitVec v) (y : BitVec w) : lineOrder (x ++ y) = lineOrder x ++ lineOrder y := by
  rw [lineOrder, List.range_add, List.map_append, List.map_map]
  congr 1
  · refine List.map_congr_left fun i hi => ?_
    rw [BitVec.getMsbD_append, if_neg (Nat.not_le.2 (List.mem_range.1 hi))]
  · refine List.map_congr_left fun i _ => ?_
    rw [Function.comp_apply, BitVec.getMsbD_append, if_pos (Nat.le_add_right v i), Nat.add_sub_cancel_left]

/-- The fourteen bytes of a cell that its check is computed over. -/
def checkedBits (c : Cell) : BitVec 112 :=
  c.kindCode ++ c.flags ++ c.station ++ c.spare ++ c.slot ++ c.sequence ++ c.payload ++ c.stamp

theorem lineBits_toRaw (c : Cell) : lineBits c.toRaw = lineOrder (checkedBits c) ++ lineOrder c.check := by
  rw [lineBits_eq]
  exact lineOrder_append (checkedBits c) c.check

theorem computedCheck_toRaw (c : Cell) : computedCheck c.toRaw = checkOfBits (lineOrder (checkedBits c)) := by
  rw [computedCheck, lineBits_toRaw, List.take_left' (length_lineOrder _)]

/-- R174: the check that a cell is given is not among the bits it is computed over. -/
theorem goodCheck_withCheck (c : Cell) : goodCheck (withCheck c).toRaw = true := by
  have hcheck : computedCheck (withCheck c).toRaw = computedCheck c.toRaw := by
    rw [computedCheck_toRaw, computedCheck_toRaw]; rfl
  rw [goodCheck, ofRaw_toRaw, hcheck, withCheck]
  exact beq_self_eq_true _

/-- R174: a bit that equals the register's top bit only shifts the register. -/
theorem checkStep_msb (reg : Word16) : checkStep reg reg.msb = reg <<< 1 := by simp [checkStep]

/-- R174: the register's own bits, computed on, shift it out. -/
theorem foldl_checkStep_own (reg : Word16) (k : Nat) :
    ((List.range k).map reg.getMsbD).foldl checkStep reg = reg <<< k := by
  induction k with
  | zero => simp
  | succ k ih =>
    rw [List.range_succ, List.map_append, List.foldl_append, ih, List.map_singleton, List.foldl_cons, List.foldl_nil,
      ← BitVec.msb_shiftLeft, checkStep_msb, ← BitVec.shiftLeft_add]

/-- R174: carried on over its own check, the computation leaves 0. -/
theorem checkOfBits_withCheck (c : Cell) : checkOfBits (lineBits (withCheck c).toRaw) = 0 := by
  have hcheck : (withCheck c).check = checkOfBits (lineOrder (checkedBits c)) := computedCheck_toRaw c
  rw [lineBits_toRaw, checkOfBits, List.foldl_append, hcheck]
  exact (foldl_checkStep_own _ 16).trans (BitVec.shiftLeft_eq_zero (by decide))

end Sys2Proof.Machine

/-! PROOFS. The cells the part makes, byte by byte (chapters 10.1, 10.3, 10.6). -/

namespace Sys2Proof.Machine

/-! ### The bytes of a cell by its fields -/

/-- Byte `k` of a cell. -/
def cellByte (c : Cell) (k : Nat) : Byte := c.toRaw.extractLsb' (8 * (15 - k)) 8

/-- Two neighbouring cuts of one bit vector, joined. -/
theorem cuts_append {w : Nat} (x : BitVec w) {high low : Nat} (m n : Nat) (h : high = low + n) :
    x.extractLsb' high m ++ x.extractLsb' low n = x.extractLsb' low (m + n) :=
  BitVec.extractLsb'_append_extractLsb'_eq_extractLsb' h

section Bytes

variable (c : Cell)

theorem cellByte_zero : cellByte c 0 = c.kindCode ++ c.flags := by
  have hfields : cellByte c 0 = (Cell.ofRaw c.toRaw).kindCode ++ (Cell.ofRaw c.toRaw).flags :=
    (cuts_append c.toRaw 4 4 rfl).symm
  rw [hfields, ofRaw_toRaw]

theorem cellByte_one : cellByte c 1 = c.station := congrArg Cell.station (ofRaw_toRaw c)

theorem cellByte_two : cellByte c 2 = c.spare ++ c.slot := by
  have hfields : cellByte c 2 = (Cell.ofRaw c.toRaw).spare ++ (Cell.ofRaw c.toRaw).slot :=
    (cuts_append c.toRaw 4 4 rfl).symm
  rw [hfields, ofRaw_toRaw]

theorem cellByte_three : cellByte c 3 = c.sequence := congrArg Cell.sequence (ofRaw_toRaw c)

theorem payload_eq : c.payload = c.toRaw.extractLsb' 32 64 := (congrArg Cell.payload (ofRaw_toRaw c)).symm

theorem stamp_eq : c.stamp = c.toRaw.extractLsb' 16 16 := (congrArg Cell.stamp (ofRaw_toRaw c)).symm

theorem cellByte_payload {k : Nat} (h4 : 4 ≤ k) (h11 : k ≤ 11) :
    cellByte c k = c.payload.extractLsb' (8 * (11 - k)) 8 := by
  rw [payload_eq, extractLsb'_extractLsb' _ (by omega), cellByte]
  congr 1
  omega

/-- R173: two bytes of the payload as one field. -/
theorem cellByte_append_payload {k : Nat} (h4 : 4 ≤ k) (h10 : k ≤ 10) :
    cellByte c k ++ cellByte c (k + 1) = c.payload.extractLsb' (8 * (10 - k)) 16 := by
  rw [cellByte_payload c h4 (by omega), cellByte_payload c (by omega) (by omega)]
  rw [show 10 - k = 11 - (k + 1) by omega]
  exact cuts_append c.payload 8 8 (by omega)

theorem cellByte_stamp : cellByte c 12 ++ cellByte c 13 = c.stamp := by
  rw [stamp_eq]
  exact cuts_append c.toRaw 8 8 rfl

/-- R173: the stamp's two bytes one by one. -/
theorem cellByte_stampBytes : cellByte c 12 = highByte c.stamp ∧ cellByte c 13 = lowByte c.stamp := by
  rw [stamp_eq, highByte, lowByte, extractLsb'_extractLsb' _ (by decide), extractLsb'_extractLsb' _ (by decide)]
  exact ⟨rfl, rfl⟩

theorem getLsbD_payload {i : Nat} (h : i < 64) : c.toRaw.getLsbD (32 + i) = c.payload.getLsbD i := by
  rw [payload_eq, BitVec.getLsbD_extractLsb', decide_eq_true h, Bool.true_and]

end Bytes

/-! ### DERIVED -/

/-- R173: bit `i` of the bits packed so far: set when its line is among them and on. -/
theorem getLsbD_packed (f : Fin 32 → Bool) (i : Fin 32) (l : List (Fin 32)) :
    (l.foldr (fun (j : Fin 32) (w : BitVec 32) => if f j then w ||| (1 <<< j.val) else w) 0).getLsbD i.val =
      decide (i ∈ l ∧ f i = true) := by
  have hplace : ∀ j : Fin 32, ((1 <<< j.val : Nat) : BitVec 32).getLsbD i.val = decide (i = j) := fun j => by
    rw [BitVec.natCast_eq_ofNat, BitVec.getLsbD_ofNat, Nat.one_shiftLeft, Nat.testBit_two_pow, decide_eq_true i.isLt,
      Bool.true_and]
    exact decide_eq_decide.2 ⟨fun h => Fin.ext h.symm, fun h => congrArg Fin.val h.symm⟩
  induction l with
  | nil => simp
  | cons j l ih =>
    rw [List.foldr_cons]
    by_cases hj : f j = true
    · rw [if_pos hj, BitVec.getLsbD_or, ih, hplace]
      by_cases hij : i = j
      · subst hij; simp [hj]
      · simp [hij]
    · rw [if_neg hj, ih]
      by_cases hij : i = j
      · subst hij; simp [hj]
      · simp [hij]

theorem getLsbD_packLines (f : Fin 32 → Bool) (i : Fin 32) : (packLines f).getLsbD i.val = f i := by
  rw [packLines, getLsbD_packed, indices_eq]
  simp

/-- R93, R95: a point that the publisher has no report on yet to take is seen as it stands. -/
theorem pointSeen_current {s : State} {p : PointNo} (h : ∀ r ∈ s.publisher.reports, r.point ≠ p) :
    pointSeen s p = pointFace (s.xc.forces.get p) (s.xc.records.get p) := by
  have hfind : (s.publisher.reports.find? fun r => r.point == p) = none := by simpa using h
  rw [pointSeen, hfind]

/-- R93, R95: a point is seen as it stood before the oldest report on it that the publisher has yet to take. -/
theorem pointSeen_before {s : State} {p : PointNo} {l l' : List PointReport} {r : PointReport}
    (hreports : s.publisher.reports = l ++ r :: l') (hfirst : ∀ x ∈ l, x.point ≠ p) (hr : r.point = p) :
    pointSeen s p = r.before := by
  have hfind : (s.publisher.reports.find? fun x => x.point == p) = some r := by
    have hnone : (l.find? fun x => x.point == p) = none := by simpa using hfirst
    rw [hreports, List.find?_append, hnone, Option.none_or, List.find?_cons_of_pos (by simpa using hr)]
  rw [pointSeen, hfind]

section Derived

variable (s : State) (g : GroupNo) (n : Word16) {p : PointNo} {i : Fin 32}

theorem groupCell_line (hp : p.val = 32 * g.val + i.val) :
    (groupCell s g n).toRaw.getLsbD (8 * (15 - (7 - i.val / 8)) + i.val % 8) = (pointSeen s p).value := by
  obtain rfl : p = groupPoint g i := Fin.ext hp
  have hplace : 8 * (15 - (7 - i.val / 8)) + i.val % 8 = 32 + (32 + i.val) := by omega
  rw [hplace, getLsbD_payload _ (by omega), ← getLsbD_packLines (fun i => (pointSeen s (groupPoint g i)).value) i]
  refine BitVec.getLsbD_append.trans ?_
  rw [if_neg (by omega), Nat.add_sub_cancel_left]

theorem groupCell_trust (hp : p.val = 32 * g.val + i.val) :
    (groupCell s g n).toRaw.getLsbD (8 * (15 - (11 - i.val / 8)) + i.val % 8) = (pointSeen s p).quality := by
  obtain rfl : p = groupPoint g i := Fin.ext hp
  have hplace : 8 * (15 - (11 - i.val / 8)) + i.val % 8 = 32 + i.val := by omega
  rw [hplace, getLsbD_payload _ (by omega), ← getLsbD_packLines (fun i => (pointSeen s (groupPoint g i)).quality) i]
  refine BitVec.getLsbD_append.trans ?_
  rw [if_pos i.isLt]

theorem groupNumber_byte : (0 : BitVec 4) ++ BitVec.ofNat 4 g.val = BitVec.ofNat 8 g.val := by
  revert g; decide

end Derived

/-! ### NOTICE -/

/-- R81: the payload of a NOTICE cell, cut into its fields again. -/
theorem noticePayload_fields (b4 b5 b6 b7 b8 : Byte) (first : Word16) (b11 : Byte) :
    let payload : BitVec 64 := b4 ++ b5 ++ b6 ++ b7 ++ b8 ++ first ++ b11
    payload.extractLsb' 56 8 = b4 ∧ payload.extractLsb' 48 8 = b5 ∧ payload.extractLsb' 40 8 = b6 ∧
      payload.extractLsb' 32 8 = b7 ∧ payload.extractLsb' 24 8 = b8 ∧ payload.extractLsb' 8 16 = first ∧
      payload.extractLsb' 0 8 = b11 := by
  intro payload
  have hcuts : payload.extractLsb' 56 8 ++ payload.extractLsb' 48 8 ++ payload.extractLsb' 40 8
      ++ payload.extractLsb' 32 8 ++ payload.extractLsb' 24 8 ++ payload.extractLsb' 8 16
      ++ payload.extractLsb' 0 8 = b4 ++ b5 ++ b6 ++ b7 ++ b8 ++ first ++ b11 := by
    iterate 6 rw [BitVec.extractLsb'_append_extractLsb'_eq_extractLsb']
    · exact BitVec.extractLsb'_eq_self
    all_goals rfl
  obtain ⟨hcuts, h11⟩ := append_inj hcuts
  obtain ⟨hcuts, hfirst⟩ := append_inj hcuts
  obtain ⟨hcuts, h8⟩ := append_inj hcuts
  obtain ⟨hcuts, h7⟩ := append_inj hcuts
  obtain ⟨hcuts, h6⟩ := append_inj hcuts
  obtain ⟨h4, h5⟩ := append_inj hcuts
  exact ⟨h4, h5, h6, h7, h8, hfirst, h11⟩

/-- R162: the payload of a RESPONSE cell, cut into its bytes again. -/
theorem responsePayload_bytes (op code : Byte) (data : List Byte) :
    let payload : BitVec 64 := op ++ code ++ packData data
    payload.extractLsb' 56 8 = op ∧ payload.extractLsb' 48 8 = code ∧
      ∀ k, k < 6 → payload.extractLsb' (8 * (5 - k)) 8 = data.getD k 0 := by
  intro payload
  have hcuts : payload.extractLsb' 56 8 ++ payload.extractLsb' 48 8 ++ (payload.extractLsb' 40 8
      ++ payload.extractLsb' 32 8 ++ payload.extractLsb' 24 8 ++ payload.extractLsb' 16 8 ++ payload.extractLsb' 8 8
      ++ payload.extractLsb' 0 8) = op ++ code ++ packData data := by
    iterate 7 rw [BitVec.extractLsb'_append_extractLsb'_eq_extractLsb']
    · exact BitVec.extractLsb'_eq_self
    all_goals rfl
  obtain ⟨hhead, hcuts⟩ := append_inj hcuts
  obtain ⟨hop, hcode⟩ := append_inj hhead
  obtain ⟨hcuts, h5⟩ := append_inj hcuts
  obtain ⟨hcuts, h4⟩ := append_inj hcuts
  obtain ⟨hcuts, h3⟩ := append_inj hcuts
  obtain ⟨hcuts, h2⟩ := append_inj hcuts
  obtain ⟨h0, h1⟩ := append_inj hcuts
  refine ⟨hop, hcode, fun k hk => ?_⟩
  match k, hk with
  | 0, _ => exact h0
  | 1, _ => exact h1
  | 2, _ => exact h2
  | 3, _ => exact h3
  | 4, _ => exact h4
  | 5, _ => exact h5

/-! ### The five made kinds -/

/-- R110, R129: the bytes between station and stamp of a cell whose fields there are 0. -/
theorem cellByte_blank {c : Cell} (hspare : c.spare = 0) (hslot : c.slot = 0) (hsequence : c.sequence = 0)
    (hpayload : c.payload = 0) {k : Nat} (h2 : 2 ≤ k) (h11 : k ≤ 11) : cellByte c k = 0 := by
  obtain rfl | rfl | h4 : k = 2 ∨ k = 3 ∨ 4 ≤ k := by omega
  · rw [cellByte_two, hspare, hslot]; rfl
  · rw [cellByte_three, hsequence]
  · rw [cellByte_payload c h4 h11, hpayload]
    exact BitVec.extractLsb'_zero

/-- R173: two nibbles as one byte. -/
theorem nibbles_byte (high low : BitVec 4) : high ++ low = BitVec.ofNat 8 (16 * high.toNat + low.toNat) := by
  revert high low; decide

section Made

variable (station : Byte)

theorem groupCell_bytes (s : State) (g : GroupNo) (n : Word16) : let c := groupCell s g n
    goodCheck c.toRaw = true ∧ cellByte c 0 = 0x30 ∧ cellByte c 1 = s.engine.station ∧
      cellByte c 2 = BitVec.ofNat 8 g.val ∧ cellByte c 3 = lowByte s.publisher.generation ∧
      cellByte c 12 ++ cellByte c 13 = n :=
  ⟨goodCheck_withCheck _, (cellByte_zero _).trans (nibbles_byte 3 0), cellByte_one _, (cellByte_two _).trans (groupNumber_byte g),
    cellByte_three _, cellByte_stamp _⟩

theorem noticeFlags_byte (again attention : Bool) :
    (4 : BitVec 4) ++ ((0 : BitVec 2) ++ bit again ++ bit attention) =
      0x40 ||| (0 : BitVec 6) ++ bit again ++ bit attention := by
  revert again attention; decide

theorem classTriggerByte_eq (n : Notice) :
    classTriggerByte n = BitVec.ofNat 8 (16 * n.cls.val + (triggerCode n.trigger).toNat) := by
  have hbyte : ∀ (c : ClassNo) (tr : BitVec 3), (0 : BitVec 2) ++ BitVec.ofNat 2 c.val ++ (0 : BitVec 1) ++ tr =
      BitVec.ofNat 8 (16 * c.val + tr.toNat) := by decide
  exact hbyte n.cls (triggerCode n.trigger)

theorem makeNoticeCell_bytes (attention again : Bool) (n : Word16) (f : FlightRecord) :
    let c := makeNoticeCell station attention again n f
    goodCheck c.toRaw = true ∧ cellByte c 0 = 0x40 ||| (0 : BitVec 6) ++ bit again ++ bit attention ∧
      cellByte c 1 = station ∧ cellByte c 2 = 0 ∧ cellByte c 3 = f.sequence ∧ cellByte c 4 = f.sequence ∧
      cellByte c 5 = BitVec.ofNat 8 f.notice.watch.val ∧
      cellByte c 6 = BitVec.ofNat 8 (16 * f.notice.cls.val + (triggerCode f.notice.trigger).toNat) ∧
      cellByte c 7 = (0 : BitVec 3) ++ bit f.notice.forced ++ conditionCode f.notice.cond ++ bit f.notice.value ∧
      cellByte c 8 = BitVec.ofNat 8 f.notice.count ∧ cellByte c 9 ++ cellByte c 10 = f.notice.first ∧
      cellByte c 11 = BitVec.ofNat 8 f.attempt ∧
      cellByte c 12 ++ cellByte c 13 = if Config.noticeStampIsCount = true then n else f.notice.last := by
  intro c
  obtain ⟨h4, h5, h6, h7, h8, hfirst, h11⟩ := noticePayload_fields f.sequence (countByte f.notice.watch.val)
    (classTriggerByte f.notice) (subjectByte f.notice) (countByte f.notice.count) f.notice.first (countByte f.attempt)
  have hbyte : ∀ k, 4 ≤ k → k ≤ 11 → cellByte c k = c.payload.extractLsb' (8 * (11 - k)) 8 := fun k => cellByte_payload c
  exact ⟨goodCheck_withCheck _, (cellByte_zero c).trans (noticeFlags_byte again attention), cellByte_one c,
    (cellByte_two c).trans (nibbles_byte 0 0),
    cellByte_three c, (hbyte 4 (by decide) (by decide)).trans h4, (hbyte 5 (by decide) (by decide)).trans h5,
    ((hbyte 6 (by decide) (by decide)).trans h6).trans (classTriggerByte_eq f.notice),
    (hbyte 7 (by decide) (by decide)).trans h7, (hbyte 8 (by decide) (by decide)).trans h8,
    (cellByte_append_payload c (k := 9) (by decide) (by decide)).trans hfirst,
    (hbyte 11 (by decide) (by decide)).trans h11, cellByte_stamp c⟩

theorem makeCycleCell_bytes (holdover : Bool) (n : Word16) : let c := makeCycleCell station holdover n
    goodCheck c.toRaw = true ∧ cellByte c 0 = 0x10 ||| (0 : BitVec 7) ++ bit holdover ∧ cellByte c 1 = station ∧
      (∀ k, 2 ≤ k → k ≤ 11 → cellByte c k = 0) ∧ cellByte c 12 ++ cellByte c 13 = n := by
  intro c
  have hflags : ∀ b : Bool, (1 : BitVec 4) ++ ((0 : BitVec 3) ++ bit b) = 0x10 ||| (0 : BitVec 7) ++ bit b := by decide
  refine ⟨goodCheck_withCheck _, (cellByte_zero c).trans (hflags holdover), cellByte_one c, fun k h2 h11 => ?_,
    cellByte_stamp c⟩
  exact cellByte_blank rfl rfl rfl rfl h2 h11

theorem makeResponseCell_bytes (r : Request) (result : Result) (data : List Byte) :
    let c := makeResponseCell station r result data
    goodCheck c.toRaw = true ∧ cellByte c 0 = 0x60 ∧ cellByte c 1 = station ∧
      cellByte c 2 = r.originator.setWidth 8 ∧ cellByte c 3 = r.tag ∧ cellByte c 4 = r.operation ∧
      cellByte c 5 = resultCode result ∧ (∀ k, k < 6 → cellByte c (6 + k) = data.getD k 0) ∧
      cellByte c 12 ++ cellByte c 13 = r.arrival := by
  intro c
  obtain ⟨hop, hcode, hdata⟩ := responsePayload_bytes r.operation (resultCode result) data
  have horiginator : r.originator.setWidth 8 = (0 : BitVec 4) ++ r.originator := BitVec.setWidth_eq_append (by decide)
  refine ⟨goodCheck_withCheck _, (cellByte_zero c).trans (nibbles_byte 6 0), cellByte_one c, (cellByte_two c).trans horiginator.symm,
    cellByte_three c, (cellByte_payload c (k := 4) (by decide) (by decide)).trans hop,
    (cellByte_payload c (k := 5) (by decide) (by decide)).trans hcode, fun k hk => ?_, cellByte_stamp c⟩
  rw [cellByte_payload c (by omega) (by omega), show 11 - (6 + k) = 5 - k by omega]
  exact hdata k hk

theorem makeFillCell_bytes : let c := makeFillCell station
    goodCheck c.toRaw = true ∧ cellByte c 0 = 0 ∧ cellByte c 1 = station ∧ ∀ k, 2 ≤ k → k ≤ 13 → cellByte c k = 0 := by
  intro c
  refine ⟨goodCheck_withCheck _, (cellByte_zero c).trans (nibbles_byte 0 0), cellByte_one c, fun k h2 h13 => ?_⟩
  rcases Nat.lt_or_ge 11 k with h12 | h11
  · obtain ⟨hhigh, hlow⟩ := cellByte_stampBytes c
    obtain rfl | rfl : k = 12 ∨ k = 13 := by omega
    · exact hhigh.trans (show highByte 0 = 0 from rfl)
    · exact hlow.trans (show lowByte 0 = 0 from rfl)
  · exact cellByte_blank rfl rfl rfl rfl h2 h11

end Made

/-- Settles O54: the fields are cuts of the sixteen bytes that join to them again; the check's computation, carried on
over the register it has reached, shifts it out; and each made cell's fields stand in their bytes. -/
theorem madeCellsReadBackWithGoodCheck : Obligations.MadeCellsReadBackWithGoodCheck := by
  refine ⟨toRaw_ofRaw, ofRaw_toRaw, fun c => ⟨goodCheck_withCheck c, checkOfBits_withCheck c⟩,
    fun s g n i p hp => ?derived, makeNoticeCell_bytes, makeCycleCell_bytes, makeResponseCell_bytes, makeFillCell_bytes⟩
  case derived =>
    obtain ⟨hgood, h0, h1, h2, h3, hstamp⟩ := groupCell_bytes s g n
    refine ⟨hgood, h0, h1, h2, h3, hstamp, fun hcurrent => ?current, fun l r l' hreports hfirst hr => ?waiting⟩
    case current =>
      have hseen := pointSeen_current hcurrent
      exact ⟨(groupCell_line s g n hp).trans (congrArg PointFace.value hseen),
        (groupCell_trust s g n hp).trans (congrArg PointFace.quality hseen)⟩
    case waiting =>
      have hseen := pointSeen_before hreports hfirst hr
      exact ⟨(groupCell_line s g n hp).trans (congrArg PointFace.value hseen),
        (groupCell_trust s g n hp).trans (congrArg PointFace.quality hseen)⟩

end Sys2Proof.Machine
